-- ==== Sys2Proof/Word.lean ====
section
/-! DEFINITION. The two word sizes of the hardware: every datum is 8 bits, every CPU address 16 bits (R5, R6). -/

namespace Sys2Proof

/-- A bus datum or an 8-bit register (R5: `XLEN` = 8). -/
abbrev Byte := BitVec 8

/-- A CPU address (R5: 16 bits); its arithmetic wraps, the `u16` of R6. -/
abbrev Word := BitVec 16

end Sys2Proof
end

