-- ==== Sys2Proof/Machine/Bits.lean ====
section
/-! DEFINITION. The bit-field, byte-order and sign-extension helpers of R6 and R62. -/

namespace Sys2Proof

/-- `hi(a)` = `a[15:8]` (R6); the page of an address. -/
def hi (a : Word) : Byte := a.extractLsb' 8 8

/-- `lo(a)` = `a[7:0]` (R6). -/
def lo (a : Word) : Byte := a.extractLsb' 0 8

/-- `h << 8 | l` (R6, R49): the high byte first. -/
def wordOf (h l : Byte) : Word := h ++ l

/-- `zext_16(b)` (R6). -/
def zext16 (b : Byte) : Word := b.setWidth 16

/-- `sext_16(b)` (R6): two's-complement sign extension. -/
def sext16 (b : Byte) : Word := b.signExtend 16

/-- A byte from its bits, bit 7 first. -/
def byteOfBits (b7 b6 b5 b4 b3 b2 b1 b0 : Bool) : Byte :=
  BitVec.ofBool b7 ++ BitVec.ofBool b6 ++ BitVec.ofBool b5 ++ BitVec.ofBool b4 ++
  BitVec.ofBool b3 ++ BitVec.ofBool b2 ++ BitVec.ofBool b1 ++ BitVec.ofBool b0

/-- A byte's bits from bit `n` of a 15-bit register on (`v`, `t`: R18). -/
def field15 (b : Byte) (n : Nat) : BitVec 15 := b.setWidth 15 <<< n

/-- The bits of an address from bit `n` on, `a >> n` (R6). -/
def bitsFrom (a : Word) (n : Nat) : Word := a >>> n

/-- A flag as the number 0 or 1. -/
def bit (b : Bool) : Nat := if b then 1 else 0

end Sys2Proof
end

