-- ==== Sys2Proof/Config.lean ====
section
/-! DEFINITION. The implementation parameters of R5 as plain data, and the free values: opaque constants that stand for what
the spec leaves open (OPEN parameters and oracle draws). Nothing in Lean can evaluate one. -/

namespace Sys2Proof

/-- `ILLEGAL_POLICY` (R5, R147, D3). -/
inductive IllegalPolicy where
  | fault | nop
  deriving DecidableEq, Repr

/-- `IRQ_MASKED_POLICY` (R5, R152, D12). -/
inductive IrqMaskedPolicy where
  | retain | drop
  deriving DecidableEq, Repr

/-- The two controller ports, 0x4016 and 0x4017 (R33, R185). -/
inductive Port where
  | port1 | port2
  deriving DecidableEq, Repr

/-- The named parameters of R5 that no cartridge supplies. A state carries them, so that every statement about all states is
a statement about all values of the parameters (log 4). -/
structure Config where
  illegalPolicy : IllegalPolicy
  irqMaskedPolicy : IrqMaskedPolicy
  oddSkipRequiresRendering : Bool
  resetSp : Byte
  nmiDelay : Nat
  frameCycles : Nat
  endPc : Word
  deriving DecidableEq, Repr

/-- OPEN (R5, D13): one less than `NMI_DELAY`, which is at least 1. -/
opaque Config.nmiDelayPred : Nat

/-- OPEN (R5, D38): one less than `FRAME_CYCLES`, which is positive. -/
opaque Config.frameCyclesPred : Nat

/-- OPEN (R5, D51): `END_PC`. -/
opaque Config.openEndPc : Word

/-- The free value of one `ApuStatusRead()` (R34, R185, D21), at the draw counter's value. -/
opaque Config.apuStatusRead : Nat → Byte

/-- The free value of one `InputRead(port)` (R34, R185, D21), at the draw counter's value. -/
opaque Config.inputRead : Port → Nat → Byte

/-- The free value of `h` in one `SpriteFlagDraw()` (R182, D29), at the draw counter's value. -/
opaque Config.spriteHitDraw : Nat → Bool

/-- The free value of `o` in one `SpriteFlagDraw()` (R182, D29), at the draw counter's value. -/
opaque Config.spriteOverflowDraw : Nat → Bool

/-- The parameters with the defaults R5 gives; the OPEN ones are opaque. -/
def Config.default : Config where
  illegalPolicy := .fault
  irqMaskedPolicy := .retain
  oddSkipRequiresRendering := false
  resetSp := 0xFC
  nmiDelay := Config.nmiDelayPred + 1
  frameCycles := Config.frameCyclesPred + 1
  endPc := Config.openEndPc

end Sys2Proof
end

