-- ==== Sys2Proof/Syntax.lean ====
section
/-! DEFINITION. The instruction set as syntax: the addressing modes (R61), the mnemonics (R64), the operand forms, and `Instr`,
one constructor for each of the 256 rows of the opcode table (R64, R65). A row of class `illegal` carries its opcode in its
constructor's name, since several rows share one mnemonic and mode (R66: class, not mnemonic, decides). -/

namespace Sys2Proof

/-- The thirteen addressing modes (R61). -/
inductive Mode where
  | imp | acc | imm | zp | zpx | zpy | izx | izy | rel | abs | absx | absy | ind
  deriving DecidableEq, Repr

/-- The class of a row (R65, R66). -/
inductive OpClass where
  | documented | illegal
  deriving DecidableEq, Repr

/-- The mnemonics of the opcode map (R64). -/
inductive Mnemonic where
  | BRK | ORA | KIL | SLO | NOP | ASL | PHP | ANC | BPL | CLC | JSR | AND | RLA | BIT | ROL
  | PLP | BMI | SEC | RTI | EOR | SRE | LSR | PHA | ALR | JMP | BVC | CLI | RTS | ADC | RRA
  | ROR | PLA | ARR | BVS | SEI | STA | SAX | STY | STX | DEY | TXA | XAA | BCC | AHX | TYA
  | TXS | TAS | SHY | SHX | LDY | LDA | LDX | LAX | TAY | TAX | BCS | CLV | TSX | LAS | CPY
  | CMP | DCP | DEC | INY | DEX | AXS | BNE | CLD | CPX | SBC | ISC | INC | INX | BEQ | SED
  deriving DecidableEq, Repr

/-- An operand as the instruction's bytes give it (R61, R62): a data byte, a zero-page byte, a branch offset, or a 16-bit
address or pointer. The constructor is the addressing mode. -/
inductive Operand where
  | imp
  | acc
  | imm (data : Byte)
  | zp (address : Byte)
  | zpx (base : Byte)
  | zpy (base : Byte)
  | izx (pointer : Byte)
  | izy (pointer : Byte)
  | rel (offset : Byte)
  | abs (address : Word)
  | absx (base : Word)
  | absy (base : Word)
  | ind (pointer : Word)
  deriving DecidableEq, Repr

/-- The addressing mode of an operand. -/
def Operand.mode : Operand → Mode
  | .imp => .imp
  | .acc => .acc
  | .imm _ => .imm
  | .zp _ => .zp
  | .zpx _ => .zpx
  | .zpy _ => .zpy
  | .izx _ => .izx
  | .izy _ => .izy
  | .rel _ => .rel
  | .abs _ => .abs
  | .absx _ => .absx
  | .absy _ => .absy
  | .ind _ => .ind

/-- An instruction: one constructor for each row of the opcode table, the rows with operand bytes first, then the rows
of one byte, each in the table's order. A `b` is the operand byte, a `w` the 16-bit operand (R62). -/
inductive Instr where
  | oraIzx (b : Byte)
  | sloIzx_03 (b : Byte)
  | nopZp_04 (b : Byte)
  | oraZp (b : Byte)
  | aslZp (b : Byte)
  | sloZp_07 (b : Byte)
  | oraImm (b : Byte)
  | ancImm_0B (b : Byte)
  | nopAbs_0C (w : Word)
  | oraAbs (w : Word)
  | aslAbs (w : Word)
  | sloAbs_0F (w : Word)
  | bpl (b : Byte)
  | oraIzy (b : Byte)
  | sloIzy_13 (b : Byte)
  | nopZpx_14 (b : Byte)
  | oraZpx (b : Byte)
  | aslZpx (b : Byte)
  | sloZpx_17 (b : Byte)
  | oraAbsy (w : Word)
  | sloAbsy_1B (w : Word)
  | nopAbsx_1C (w : Word)
  | oraAbsx (w : Word)
  | aslAbsx (w : Word)
  | sloAbsx_1F (w : Word)
  | jsr (w : Word)
  | andIzx (b : Byte)
  | rlaIzx_23 (b : Byte)
  | bitZp (b : Byte)
  | andZp (b : Byte)
  | rolZp (b : Byte)
  | rlaZp_27 (b : Byte)
  | andImm (b : Byte)
  | ancImm_2B (b : Byte)
  | bitAbs (w : Word)
  | andAbs (w : Word)
  | rolAbs (w : Word)
  | rlaAbs_2F (w : Word)
  | bmi (b : Byte)
  | andIzy (b : Byte)
  | rlaIzy_33 (b : Byte)
  | nopZpx_34 (b : Byte)
  | andZpx (b : Byte)
  | rolZpx (b : Byte)
  | rlaZpx_37 (b : Byte)
  | andAbsy (w : Word)
  | rlaAbsy_3B (w : Word)
  | nopAbsx_3C (w : Word)
  | andAbsx (w : Word)
  | rolAbsx (w : Word)
  | rlaAbsx_3F (w : Word)
  | eorIzx (b : Byte)
  | sreIzx_43 (b : Byte)
  | nopZp_44 (b : Byte)
  | eorZp (b : Byte)
  | lsrZp (b : Byte)
  | sreZp_47 (b : Byte)
  | eorImm (b : Byte)
  | alrImm_4B (b : Byte)
  | jmpAbs (w : Word)
  | eorAbs (w : Word)
  | lsrAbs (w : Word)
  | sreAbs_4F (w : Word)
  | bvc (b : Byte)
  | eorIzy (b : Byte)
  | sreIzy_53 (b : Byte)
  | nopZpx_54 (b : Byte)
  | eorZpx (b : Byte)
  | lsrZpx (b : Byte)
  | sreZpx_57 (b : Byte)
  | eorAbsy (w : Word)
  | sreAbsy_5B (w : Word)
  | nopAbsx_5C (w : Word)
  | eorAbsx (w : Word)
  | lsrAbsx (w : Word)
  | sreAbsx_5F (w : Word)
  | adcIzx (b : Byte)
  | rraIzx_63 (b : Byte)
  | nopZp_64 (b : Byte)
  | adcZp (b : Byte)
  | rorZp (b : Byte)
  | rraZp_67 (b : Byte)
  | adcImm (b : Byte)
  | arrImm_6B (b : Byte)
  | jmpInd (w : Word)
  | adcAbs (w : Word)
  | rorAbs (w : Word)
  | rraAbs_6F (w : Word)
  | bvs (b : Byte)
  | adcIzy (b : Byte)
  | rraIzy_73 (b : Byte)
  | nopZpx_74 (b : Byte)
  | adcZpx (b : Byte)
  | rorZpx (b : Byte)
  | rraZpx_77 (b : Byte)
  | adcAbsy (w : Word)
  | rraAbsy_7B (w : Word)
  | nopAbsx_7C (w : Word)
  | adcAbsx (w : Word)
  | rorAbsx (w : Word)
  | rraAbsx_7F (w : Word)
  | nopImm_80 (b : Byte)
  | staIzx (b : Byte)
  | nopImm_82 (b : Byte)
  | saxIzx_83 (b : Byte)
  | styZp (b : Byte)
  | staZp (b : Byte)
  | stxZp (b : Byte)
  | saxZp_87 (b : Byte)
  | nopImm_89 (b : Byte)
  | xaaImm_8B (b : Byte)
  | styAbs (w : Word)
  | staAbs (w : Word)
  | stxAbs (w : Word)
  | saxAbs_8F (w : Word)
  | bcc (b : Byte)
  | staIzy (b : Byte)
  | ahxIzy_93 (b : Byte)
  | styZpx (b : Byte)
  | staZpx (b : Byte)
  | stxZpy (b : Byte)
  | saxZpy_97 (b : Byte)
  | staAbsy (w : Word)
  | tasAbsy_9B (w : Word)
  | shyAbsx_9C (w : Word)
  | staAbsx (w : Word)
  | shxAbsy_9E (w : Word)
  | ahxAbsy_9F (w : Word)
  | ldyImm (b : Byte)
  | ldaIzx (b : Byte)
  | ldxImm (b : Byte)
  | laxIzx_A3 (b : Byte)
  | ldyZp (b : Byte)
  | ldaZp (b : Byte)
  | ldxZp (b : Byte)
  | laxZp_A7 (b : Byte)
  | ldaImm (b : Byte)
  | laxImm_AB (b : Byte)
  | ldyAbs (w : Word)
  | ldaAbs (w : Word)
  | ldxAbs (w : Word)
  | laxAbs_AF (w : Word)
  | bcs (b : Byte)
  | ldaIzy (b : Byte)
  | laxIzy_B3 (b : Byte)
  | ldyZpx (b : Byte)
  | ldaZpx (b : Byte)
  | ldxZpy (b : Byte)
  | laxZpy_B7 (b : Byte)
  | ldaAbsy (w : Word)
  | lasAbsy_BB (w : Word)
  | ldyAbsx (w : Word)
  | ldaAbsx (w : Word)
  | ldxAbsy (w : Word)
  | laxAbsy_BF (w : Word)
  | cpyImm (b : Byte)
  | cmpIzx (b : Byte)
  | nopImm_C2 (b : Byte)
  | dcpIzx_C3 (b : Byte)
  | cpyZp (b : Byte)
  | cmpZp (b : Byte)
  | decZp (b : Byte)
  | dcpZp_C7 (b : Byte)
  | cmpImm (b : Byte)
  | axsImm_CB (b : Byte)
  | cpyAbs (w : Word)
  | cmpAbs (w : Word)
  | decAbs (w : Word)
  | dcpAbs_CF (w : Word)
  | bne (b : Byte)
  | cmpIzy (b : Byte)
  | dcpIzy_D3 (b : Byte)
  | nopZpx_D4 (b : Byte)
  | cmpZpx (b : Byte)
  | decZpx (b : Byte)
  | dcpZpx_D7 (b : Byte)
  | cmpAbsy (w : Word)
  | dcpAbsy_DB (w : Word)
  | nopAbsx_DC (w : Word)
  | cmpAbsx (w : Word)
  | decAbsx (w : Word)
  | dcpAbsx_DF (w : Word)
  | cpxImm (b : Byte)
  | sbcIzx (b : Byte)
  | nopImm_E2 (b : Byte)
  | iscIzx_E3 (b : Byte)
  | cpxZp (b : Byte)
  | sbcZp (b : Byte)
  | incZp (b : Byte)
  | iscZp_E7 (b : Byte)
  | sbcImm (b : Byte)
  | sbcImm_EB (b : Byte)
  | cpxAbs (w : Word)
  | sbcAbs (w : Word)
  | incAbs (w : Word)
  | iscAbs_EF (w : Word)
  | beq (b : Byte)
  | sbcIzy (b : Byte)
  | iscIzy_F3 (b : Byte)
  | nopZpx_F4 (b : Byte)
  | sbcZpx (b : Byte)
  | incZpx (b : Byte)
  | iscZpx_F7 (b : Byte)
  | sbcAbsy (w : Word)
  | iscAbsy_FB (w : Word)
  | nopAbsx_FC (w : Word)
  | sbcAbsx (w : Word)
  | incAbsx (w : Word)
  | iscAbsx_FF (w : Word)
  | brk
  | kil_02
  | php
  | aslAcc
  | kil_12
  | clc
  | nop_1A
  | kil_22
  | plp
  | rolAcc
  | kil_32
  | sec
  | nop_3A
  | rti
  | kil_42
  | pha
  | lsrAcc
  | kil_52
  | cli
  | nop_5A
  | rts
  | kil_62
  | pla
  | rorAcc
  | kil_72
  | sei
  | nop_7A
  | dey
  | txa
  | kil_92
  | tya
  | txs
  | tay
  | tax
  | kil_B2
  | clv
  | tsx
  | iny
  | dex
  | kil_D2
  | cld
  | nop_DA
  | inx
  | nop
  | kil_F2
  | sed
  | nop_FA
  deriving DecidableEq, Repr

end Sys2Proof
end

