-- ==== Sys2Proof/Decode.lean ====
section
/-! DEFINITION. The instruction table (R65), the decoder built on it, and the encoder. A row holds the descriptor of R65 and how
the row's operand bytes make its `Instr`; the decoder reads the opcode byte, then the operand bytes the row asks for (R60, R61,
R62). -/

namespace Sys2Proof

/-- The descriptor of one opcode (R65): mnemonic, mode, size in bytes, base cycles, page cycles, class. -/
structure Descriptor where
  mnemonic : Mnemonic
  mode : Mode
  size : Nat
  cycles : Nat
  pageCycles : Nat
  opClass : OpClass
  deriving DecidableEq, Repr

/-- How many operand bytes a row has, and the instruction they make (R61, R62). -/
inductive Build where
  | bare (i : Instr)
  | byte (f : Byte → Instr)
  | word (f : Word → Instr)

/-- One row of the instruction table. -/
structure Row where
  descriptor : Descriptor
  build : Build

/-- A row of class `documented` (R65). -/
def documentedRow (m : Mnemonic) (mode : Mode) (size cycles pageCycles : Nat) (build : Build) : Row :=
  ⟨⟨m, mode, size, cycles, pageCycles, .documented⟩, build⟩

/-- A row of class `illegal` (R65, R66). -/
def illegalRow (m : Mnemonic) (mode : Mode) (size cycles pageCycles : Nat) (build : Build) : Row :=
  ⟨⟨m, mode, size, cycles, pageCycles, .illegal⟩, build⟩

/-- Rows 0x00 to 0x0F of R65. -/
def rows0 : List Row := [
  documentedRow .BRK .imp 1 7 0 (.bare .brk),
  documentedRow .ORA .izx 2 6 0 (.byte .oraIzx),
  illegalRow .KIL .imp 1 2 0 (.bare .kil_02),
  illegalRow .SLO .izx 2 8 0 (.byte .sloIzx_03),
  illegalRow .NOP .zp 2 3 0 (.byte .nopZp_04),
  documentedRow .ORA .zp 2 3 0 (.byte .oraZp),
  documentedRow .ASL .zp 2 5 0 (.byte .aslZp),
  illegalRow .SLO .zp 2 5 0 (.byte .sloZp_07),
  documentedRow .PHP .imp 1 3 0 (.bare .php),
  documentedRow .ORA .imm 2 2 0 (.byte .oraImm),
  documentedRow .ASL .acc 1 2 0 (.bare .aslAcc),
  illegalRow .ANC .imm 2 2 0 (.byte .ancImm_0B),
  illegalRow .NOP .abs 3 4 0 (.word .nopAbs_0C),
  documentedRow .ORA .abs 3 4 0 (.word .oraAbs),
  documentedRow .ASL .abs 3 6 0 (.word .aslAbs),
  illegalRow .SLO .abs 3 6 0 (.word .sloAbs_0F)]

/-- Rows 0x10 to 0x1F of R65. -/
def rows1 : List Row := [
  documentedRow .BPL .rel 2 2 0 (.byte .bpl),
  documentedRow .ORA .izy 2 5 1 (.byte .oraIzy),
  illegalRow .KIL .imp 1 2 0 (.bare .kil_12),
  illegalRow .SLO .izy 2 8 0 (.byte .sloIzy_13),
  illegalRow .NOP .zpx 2 4 0 (.byte .nopZpx_14),
  documentedRow .ORA .zpx 2 4 0 (.byte .oraZpx),
  documentedRow .ASL .zpx 2 6 0 (.byte .aslZpx),
  illegalRow .SLO .zpx 2 6 0 (.byte .sloZpx_17),
  documentedRow .CLC .imp 1 2 0 (.bare .clc),
  documentedRow .ORA .absy 3 4 1 (.word .oraAbsy),
  illegalRow .NOP .imp 1 2 0 (.bare .nop_1A),
  illegalRow .SLO .absy 3 7 0 (.word .sloAbsy_1B),
  illegalRow .NOP .absx 3 4 1 (.word .nopAbsx_1C),
  documentedRow .ORA .absx 3 4 1 (.word .oraAbsx),
  documentedRow .ASL .absx 3 7 0 (.word .aslAbsx),
  illegalRow .SLO .absx 3 7 0 (.word .sloAbsx_1F)]

/-- Rows 0x20 to 0x2F of R65. -/
def rows2 : List Row := [
  documentedRow .JSR .abs 3 6 0 (.word .jsr),
  documentedRow .AND .izx 2 6 0 (.byte .andIzx),
  illegalRow .KIL .imp 1 2 0 (.bare .kil_22),
  illegalRow .RLA .izx 2 8 0 (.byte .rlaIzx_23),
  documentedRow .BIT .zp 2 3 0 (.byte .bitZp),
  documentedRow .AND .zp 2 3 0 (.byte .andZp),
  documentedRow .ROL .zp 2 5 0 (.byte .rolZp),
  illegalRow .RLA .zp 2 5 0 (.byte .rlaZp_27),
  documentedRow .PLP .imp 1 4 0 (.bare .plp),
  documentedRow .AND .imm 2 2 0 (.byte .andImm),
  documentedRow .ROL .acc 1 2 0 (.bare .rolAcc),
  illegalRow .ANC .imm 2 2 0 (.byte .ancImm_2B),
  documentedRow .BIT .abs 3 4 0 (.word .bitAbs),
  documentedRow .AND .abs 3 4 0 (.word .andAbs),
  documentedRow .ROL .abs 3 6 0 (.word .rolAbs),
  illegalRow .RLA .abs 3 6 0 (.word .rlaAbs_2F)]

/-- Rows 0x30 to 0x3F of R65. -/
def rows3 : List Row := [
  documentedRow .BMI .rel 2 2 0 (.byte .bmi),
  documentedRow .AND .izy 2 5 1 (.byte .andIzy),
  illegalRow .KIL .imp 1 2 0 (.bare .kil_32),
  illegalRow .RLA .izy 2 8 0 (.byte .rlaIzy_33),
  illegalRow .NOP .zpx 2 4 0 (.byte .nopZpx_34),
  documentedRow .AND .zpx 2 4 0 (.byte .andZpx),
  documentedRow .ROL .zpx 2 6 0 (.byte .rolZpx),
  illegalRow .RLA .zpx 2 6 0 (.byte .rlaZpx_37),
  documentedRow .SEC .imp 1 2 0 (.bare .sec),
  documentedRow .AND .absy 3 4 1 (.word .andAbsy),
  illegalRow .NOP .imp 1 2 0 (.bare .nop_3A),
  illegalRow .RLA .absy 3 7 0 (.word .rlaAbsy_3B),
  illegalRow .NOP .absx 3 4 1 (.word .nopAbsx_3C),
  documentedRow .AND .absx 3 4 1 (.word .andAbsx),
  documentedRow .ROL .absx 3 7 0 (.word .rolAbsx),
  illegalRow .RLA .absx 3 7 0 (.word .rlaAbsx_3F)]

/-- Rows 0x40 to 0x4F of R65. -/
def rows4 : List Row := [
  documentedRow .RTI .imp 1 6 0 (.bare .rti),
  documentedRow .EOR .izx 2 6 0 (.byte .eorIzx),
  illegalRow .KIL .imp 1 2 0 (.bare .kil_42),
  illegalRow .SRE .izx 2 8 0 (.byte .sreIzx_43),
  illegalRow .NOP .zp 2 3 0 (.byte .nopZp_44),
  documentedRow .EOR .zp 2 3 0 (.byte .eorZp),
  documentedRow .LSR .zp 2 5 0 (.byte .lsrZp),
  illegalRow .SRE .zp 2 5 0 (.byte .sreZp_47),
  documentedRow .PHA .imp 1 3 0 (.bare .pha),
  documentedRow .EOR .imm 2 2 0 (.byte .eorImm),
  documentedRow .LSR .acc 1 2 0 (.bare .lsrAcc),
  illegalRow .ALR .imm 2 2 0 (.byte .alrImm_4B),
  documentedRow .JMP .abs 3 3 0 (.word .jmpAbs),
  documentedRow .EOR .abs 3 4 0 (.word .eorAbs),
  documentedRow .LSR .abs 3 6 0 (.word .lsrAbs),
  illegalRow .SRE .abs 3 6 0 (.word .sreAbs_4F)]

/-- Rows 0x50 to 0x5F of R65. -/
def rows5 : List Row := [
  documentedRow .BVC .rel 2 2 0 (.byte .bvc),
  documentedRow .EOR .izy 2 5 1 (.byte .eorIzy),
  illegalRow .KIL .imp 1 2 0 (.bare .kil_52),
  illegalRow .SRE .izy 2 8 0 (.byte .sreIzy_53),
  illegalRow .NOP .zpx 2 4 0 (.byte .nopZpx_54),
  documentedRow .EOR .zpx 2 4 0 (.byte .eorZpx),
  documentedRow .LSR .zpx 2 6 0 (.byte .lsrZpx),
  illegalRow .SRE .zpx 2 6 0 (.byte .sreZpx_57),
  documentedRow .CLI .imp 1 2 0 (.bare .cli),
  documentedRow .EOR .absy 3 4 1 (.word .eorAbsy),
  illegalRow .NOP .imp 1 2 0 (.bare .nop_5A),
  illegalRow .SRE .absy 3 7 0 (.word .sreAbsy_5B),
  illegalRow .NOP .absx 3 4 1 (.word .nopAbsx_5C),
  documentedRow .EOR .absx 3 4 1 (.word .eorAbsx),
  documentedRow .LSR .absx 3 7 0 (.word .lsrAbsx),
  illegalRow .SRE .absx 3 7 0 (.word .sreAbsx_5F)]

/-- Rows 0x60 to 0x6F of R65. -/
def rows6 : List Row := [
  documentedRow .RTS .imp 1 6 0 (.bare .rts),
  documentedRow .ADC .izx 2 6 0 (.byte .adcIzx),
  illegalRow .KIL .imp 1 2 0 (.bare .kil_62),
  illegalRow .RRA .izx 2 8 0 (.byte .rraIzx_63),
  illegalRow .NOP .zp 2 3 0 (.byte .nopZp_64),
  documentedRow .ADC .zp 2 3 0 (.byte .adcZp),
  documentedRow .ROR .zp 2 5 0 (.byte .rorZp),
  illegalRow .RRA .zp 2 5 0 (.byte .rraZp_67),
  documentedRow .PLA .imp 1 4 0 (.bare .pla),
  documentedRow .ADC .imm 2 2 0 (.byte .adcImm),
  documentedRow .ROR .acc 1 2 0 (.bare .rorAcc),
  illegalRow .ARR .imm 2 2 0 (.byte .arrImm_6B),
  documentedRow .JMP .ind 3 5 0 (.word .jmpInd),
  documentedRow .ADC .abs 3 4 0 (.word .adcAbs),
  documentedRow .ROR .abs 3 6 0 (.word .rorAbs),
  illegalRow .RRA .abs 3 6 0 (.word .rraAbs_6F)]

/-- Rows 0x70 to 0x7F of R65. -/
def rows7 : List Row := [
  documentedRow .BVS .rel 2 2 0 (.byte .bvs),
  documentedRow .ADC .izy 2 5 1 (.byte .adcIzy),
  illegalRow .KIL .imp 1 2 0 (.bare .kil_72),
  illegalRow .RRA .izy 2 8 0 (.byte .rraIzy_73),
  illegalRow .NOP .zpx 2 4 0 (.byte .nopZpx_74),
  documentedRow .ADC .zpx 2 4 0 (.byte .adcZpx),
  documentedRow .ROR .zpx 2 6 0 (.byte .rorZpx),
  illegalRow .RRA .zpx 2 6 0 (.byte .rraZpx_77),
  documentedRow .SEI .imp 1 2 0 (.bare .sei),
  documentedRow .ADC .absy 3 4 1 (.word .adcAbsy),
  illegalRow .NOP .imp 1 2 0 (.bare .nop_7A),
  illegalRow .RRA .absy 3 7 0 (.word .rraAbsy_7B),
  illegalRow .NOP .absx 3 4 1 (.word .nopAbsx_7C),
  documentedRow .ADC .absx 3 4 1 (.word .adcAbsx),
  documentedRow .ROR .absx 3 7 0 (.word .rorAbsx),
  illegalRow .RRA .absx 3 7 0 (.word .rraAbsx_7F)]

/-- Rows 0x80 to 0x8F of R65. -/
def rows8 : List Row := [
  illegalRow .NOP .imm 2 2 0 (.byte .nopImm_80),
  documentedRow .STA .izx 2 6 0 (.byte .staIzx),
  illegalRow .NOP .imm 2 2 0 (.byte .nopImm_82),
  illegalRow .SAX .izx 2 6 0 (.byte .saxIzx_83),
  documentedRow .STY .zp 2 3 0 (.byte .styZp),
  documentedRow .STA .zp 2 3 0 (.byte .staZp),
  documentedRow .STX .zp 2 3 0 (.byte .stxZp),
  illegalRow .SAX .zp 2 3 0 (.byte .saxZp_87),
  documentedRow .DEY .imp 1 2 0 (.bare .dey),
  illegalRow .NOP .imm 2 2 0 (.byte .nopImm_89),
  documentedRow .TXA .imp 1 2 0 (.bare .txa),
  illegalRow .XAA .imm 2 2 0 (.byte .xaaImm_8B),
  documentedRow .STY .abs 3 4 0 (.word .styAbs),
  documentedRow .STA .abs 3 4 0 (.word .staAbs),
  documentedRow .STX .abs 3 4 0 (.word .stxAbs),
  illegalRow .SAX .abs 3 4 0 (.word .saxAbs_8F)]

/-- Rows 0x90 to 0x9F of R65. -/
def rows9 : List Row := [
  documentedRow .BCC .rel 2 2 0 (.byte .bcc),
  documentedRow .STA .izy 2 6 0 (.byte .staIzy),
  illegalRow .KIL .imp 1 2 0 (.bare .kil_92),
  illegalRow .AHX .izy 2 6 0 (.byte .ahxIzy_93),
  documentedRow .STY .zpx 2 4 0 (.byte .styZpx),
  documentedRow .STA .zpx 2 4 0 (.byte .staZpx),
  documentedRow .STX .zpy 2 4 0 (.byte .stxZpy),
  illegalRow .SAX .zpy 2 4 0 (.byte .saxZpy_97),
  documentedRow .TYA .imp 1 2 0 (.bare .tya),
  documentedRow .STA .absy 3 5 0 (.word .staAbsy),
  documentedRow .TXS .imp 1 2 0 (.bare .txs),
  illegalRow .TAS .absy 3 5 0 (.word .tasAbsy_9B),
  illegalRow .SHY .absx 3 5 0 (.word .shyAbsx_9C),
  documentedRow .STA .absx 3 5 0 (.word .staAbsx),
  illegalRow .SHX .absy 3 5 0 (.word .shxAbsy_9E),
  illegalRow .AHX .absy 3 5 0 (.word .ahxAbsy_9F)]

/-- Rows 0xA0 to 0xAF of R65. -/
def rowsA : List Row := [
  documentedRow .LDY .imm 2 2 0 (.byte .ldyImm),
  documentedRow .LDA .izx 2 6 0 (.byte .ldaIzx),
  documentedRow .LDX .imm 2 2 0 (.byte .ldxImm),
  illegalRow .LAX .izx 2 6 0 (.byte .laxIzx_A3),
  documentedRow .LDY .zp 2 3 0 (.byte .ldyZp),
  documentedRow .LDA .zp 2 3 0 (.byte .ldaZp),
  documentedRow .LDX .zp 2 3 0 (.byte .ldxZp),
  illegalRow .LAX .zp 2 3 0 (.byte .laxZp_A7),
  documentedRow .TAY .imp 1 2 0 (.bare .tay),
  documentedRow .LDA .imm 2 2 0 (.byte .ldaImm),
  documentedRow .TAX .imp 1 2 0 (.bare .tax),
  illegalRow .LAX .imm 2 2 0 (.byte .laxImm_AB),
  documentedRow .LDY .abs 3 4 0 (.word .ldyAbs),
  documentedRow .LDA .abs 3 4 0 (.word .ldaAbs),
  documentedRow .LDX .abs 3 4 0 (.word .ldxAbs),
  illegalRow .LAX .abs 3 4 0 (.word .laxAbs_AF)]

/-- Rows 0xB0 to 0xBF of R65. -/
def rowsB : List Row := [
  documentedRow .BCS .rel 2 2 0 (.byte .bcs),
  documentedRow .LDA .izy 2 5 1 (.byte .ldaIzy),
  illegalRow .KIL .imp 1 2 0 (.bare .kil_B2),
  illegalRow .LAX .izy 2 5 1 (.byte .laxIzy_B3),
  documentedRow .LDY .zpx 2 4 0 (.byte .ldyZpx),
  documentedRow .LDA .zpx 2 4 0 (.byte .ldaZpx),
  documentedRow .LDX .zpy 2 4 0 (.byte .ldxZpy),
  illegalRow .LAX .zpy 2 4 0 (.byte .laxZpy_B7),
  documentedRow .CLV .imp 1 2 0 (.bare .clv),
  documentedRow .LDA .absy 3 4 1 (.word .ldaAbsy),
  documentedRow .TSX .imp 1 2 0 (.bare .tsx),
  illegalRow .LAS .absy 3 4 1 (.word .lasAbsy_BB),
  documentedRow .LDY .absx 3 4 1 (.word .ldyAbsx),
  documentedRow .LDA .absx 3 4 1 (.word .ldaAbsx),
  documentedRow .LDX .absy 3 4 1 (.word .ldxAbsy),
  illegalRow .LAX .absy 3 4 1 (.word .laxAbsy_BF)]

/-- Rows 0xC0 to 0xCF of R65. -/
def rowsC : List Row := [
  documentedRow .CPY .imm 2 2 0 (.byte .cpyImm),
  documentedRow .CMP .izx 2 6 0 (.byte .cmpIzx),
  illegalRow .NOP .imm 2 2 0 (.byte .nopImm_C2),
  illegalRow .DCP .izx 2 8 0 (.byte .dcpIzx_C3),
  documentedRow .CPY .zp 2 3 0 (.byte .cpyZp),
  documentedRow .CMP .zp 2 3 0 (.byte .cmpZp),
  documentedRow .DEC .zp 2 5 0 (.byte .decZp),
  illegalRow .DCP .zp 2 5 0 (.byte .dcpZp_C7),
  documentedRow .INY .imp 1 2 0 (.bare .iny),
  documentedRow .CMP .imm 2 2 0 (.byte .cmpImm),
  documentedRow .DEX .imp 1 2 0 (.bare .dex),
  illegalRow .AXS .imm 2 2 0 (.byte .axsImm_CB),
  documentedRow .CPY .abs 3 4 0 (.word .cpyAbs),
  documentedRow .CMP .abs 3 4 0 (.word .cmpAbs),
  documentedRow .DEC .abs 3 6 0 (.word .decAbs),
  illegalRow .DCP .abs 3 6 0 (.word .dcpAbs_CF)]

/-- Rows 0xD0 to 0xDF of R65. -/
def rowsD : List Row := [
  documentedRow .BNE .rel 2 2 0 (.byte .bne),
  documentedRow .CMP .izy 2 5 1 (.byte .cmpIzy),
  illegalRow .KIL .imp 1 2 0 (.bare .kil_D2),
  illegalRow .DCP .izy 2 8 0 (.byte .dcpIzy_D3),
  illegalRow .NOP .zpx 2 4 0 (.byte .nopZpx_D4),
  documentedRow .CMP .zpx 2 4 0 (.byte .cmpZpx),
  documentedRow .DEC .zpx 2 6 0 (.byte .decZpx),
  illegalRow .DCP .zpx 2 6 0 (.byte .dcpZpx_D7),
  documentedRow .CLD .imp 1 2 0 (.bare .cld),
  documentedRow .CMP .absy 3 4 1 (.word .cmpAbsy),
  illegalRow .NOP .imp 1 2 0 (.bare .nop_DA),
  illegalRow .DCP .absy 3 7 0 (.word .dcpAbsy_DB),
  illegalRow .NOP .absx 3 4 1 (.word .nopAbsx_DC),
  documentedRow .CMP .absx 3 4 1 (.word .cmpAbsx),
  documentedRow .DEC .absx 3 7 0 (.word .decAbsx),
  illegalRow .DCP .absx 3 7 0 (.word .dcpAbsx_DF)]

/-- Rows 0xE0 to 0xEF of R65. -/
def rowsE : List Row := [
  documentedRow .CPX .imm 2 2 0 (.byte .cpxImm),
  documentedRow .SBC .izx 2 6 0 (.byte .sbcIzx),
  illegalRow .NOP .imm 2 2 0 (.byte .nopImm_E2),
  illegalRow .ISC .izx 2 8 0 (.byte .iscIzx_E3),
  documentedRow .CPX .zp 2 3 0 (.byte .cpxZp),
  documentedRow .SBC .zp 2 3 0 (.byte .sbcZp),
  documentedRow .INC .zp 2 5 0 (.byte .incZp),
  illegalRow .ISC .zp 2 5 0 (.byte .iscZp_E7),
  documentedRow .INX .imp 1 2 0 (.bare .inx),
  documentedRow .SBC .imm 2 2 0 (.byte .sbcImm),
  documentedRow .NOP .imp 1 2 0 (.bare .nop),
  illegalRow .SBC .imm 2 2 0 (.byte .sbcImm_EB),
  documentedRow .CPX .abs 3 4 0 (.word .cpxAbs),
  documentedRow .SBC .abs 3 4 0 (.word .sbcAbs),
  documentedRow .INC .abs 3 6 0 (.word .incAbs),
  illegalRow .ISC .abs 3 6 0 (.word .iscAbs_EF)]

/-- Rows 0xF0 to 0xFF of R65. -/
def rowsF : List Row := [
  documentedRow .BEQ .rel 2 2 0 (.byte .beq),
  documentedRow .SBC .izy 2 5 1 (.byte .sbcIzy),
  illegalRow .KIL .imp 1 2 0 (.bare .kil_F2),
  illegalRow .ISC .izy 2 8 0 (.byte .iscIzy_F3),
  illegalRow .NOP .zpx 2 4 0 (.byte .nopZpx_F4),
  documentedRow .SBC .zpx 2 4 0 (.byte .sbcZpx),
  documentedRow .INC .zpx 2 6 0 (.byte .incZpx),
  illegalRow .ISC .zpx 2 6 0 (.byte .iscZpx_F7),
  documentedRow .SED .imp 1 2 0 (.bare .sed),
  documentedRow .SBC .absy 3 4 1 (.word .sbcAbsy),
  illegalRow .NOP .imp 1 2 0 (.bare .nop_FA),
  illegalRow .ISC .absy 3 7 0 (.word .iscAbsy_FB),
  illegalRow .NOP .absx 3 4 1 (.word .nopAbsx_FC),
  documentedRow .SBC .absx 3 4 1 (.word .sbcAbsx),
  documentedRow .INC .absx 3 7 0 (.word .incAbsx),
  illegalRow .ISC .absx 3 7 0 (.word .iscAbsx_FF)]

/-- The instruction table (R65): sixteen lines of sixteen rows, as R64 draws it, indexed by the opcode's two nibbles. -/
def instructionTable : List (List Row) :=
  [rows0, rows1, rows2, rows3, rows4, rows5, rows6, rows7,
   rows8, rows9, rowsA, rowsB, rowsC, rowsD, rowsE, rowsF]

/-- Every line of the table has a row for each low nibble, so no opcode lacks a descriptor (R65, R148). -/
theorem instructionTable_lines : ∀ line ∈ instructionTable, line.length = 16 := by
  intro line h
  simp only [instructionTable, List.mem_cons, List.not_mem_nil, or_false] at h
  rcases h with h | h | h | h | h | h | h | h | h | h | h | h | h | h | h | h <;> subst h <;> rfl

/-- The table's line of an opcode byte: its high nibble's. -/
def lineOf (op : Byte) : List Row :=
  instructionTable[op.toNat / 16]'(by
    have := op.isLt
    show op.toNat / 16 < 16
    omega)

/-- The row of an opcode byte (R65); total, since the table is. -/
def rowOf (op : Byte) : Row :=
  (lineOf op)[op.toNat % 16]'(by
    rw [show (lineOf op).length = 16 from instructionTable_lines _ (List.getElem_mem _)]
    omega)

/-- `lookup(op)` (R65). -/
def lookup (op : Byte) : Descriptor := (rowOf op).descriptor

/-- Why a list of bytes is no instruction: it is empty, or it ends inside the instruction its opcode begins. -/
inductive DecodeError where
  | empty
  | truncated (opcode : Byte)
  deriving DecidableEq, Repr

/-- Decode the first instruction of a list of bytes and give the bytes left over (R60, R61, R62). -/
def decode : List Byte → Except DecodeError (Instr × List Byte)
  | [] => .error .empty
  | op :: rest =>
    match (rowOf op).build, rest with
    | .bare i, r => .ok (i, r)
    | .byte f, b1 :: r => .ok (f b1, r)
    | .word f, b1 :: b2 :: r => .ok (f (wordOf b2 b1), r)
    | _, _ => .error (.truncated op)

/-- The bytes of an instruction laid out in the number `w` as the opcode table numbers its bits: the opcode is the least
significant byte, the operand bytes count on from it, and every bit from `nbits` on is 0. -/
def tableBytes (nbits w : Nat) : List Byte :=
  let n := w % 2 ^ nbits
  [BitVec.ofNat 8 n, BitVec.ofNat 8 (n / 2 ^ 8), BitVec.ofNat 8 (n / 2 ^ 16)]

/-- The instruction the decoder reads from an instruction whose bits are `w`, numbered as the opcode table numbers them. -/
def decodeTableWord (nbits w : Nat) : Option Instr :=
  match decode (tableBytes nbits w) with
  | .ok (i, _) => some i
  | .error _ => none

/-- An opcode byte and an operand: what an instruction's bytes say (R60, R61). -/
structure CodeWord where
  opcode : Byte
  operand : Operand
  deriving DecidableEq, Repr

/-- The operand bytes of an operand, the low byte of a 16-bit operand first (R49, R61). -/
def Operand.bytes : Operand → List Byte
  | .imp | .acc => []
  | .imm b | .zp b | .zpx b | .zpy b | .izx b | .izy b | .rel b => [b]
  | .abs w | .absx w | .absy w | .ind w => [lo w, hi w]

/-- The opcode byte and the operand of an instruction (R64, R65). -/
def Instr.code : Instr → CodeWord
  | .brk => ⟨0x00, .imp⟩
  | .oraIzx b => ⟨0x01, .izx b⟩
  | .kil_02 => ⟨0x02, .imp⟩
  | .sloIzx_03 b => ⟨0x03, .izx b⟩
  | .nopZp_04 b => ⟨0x04, .zp b⟩
  | .oraZp b => ⟨0x05, .zp b⟩
  | .aslZp b => ⟨0x06, .zp b⟩
  | .sloZp_07 b => ⟨0x07, .zp b⟩
  | .php => ⟨0x08, .imp⟩
  | .oraImm b => ⟨0x09, .imm b⟩
  | .aslAcc => ⟨0x0A, .acc⟩
  | .ancImm_0B b => ⟨0x0B, .imm b⟩
  | .nopAbs_0C w => ⟨0x0C, .abs w⟩
  | .oraAbs w => ⟨0x0D, .abs w⟩
  | .aslAbs w => ⟨0x0E, .abs w⟩
  | .sloAbs_0F w => ⟨0x0F, .abs w⟩
  | .bpl b => ⟨0x10, .rel b⟩
  | .oraIzy b => ⟨0x11, .izy b⟩
  | .kil_12 => ⟨0x12, .imp⟩
  | .sloIzy_13 b => ⟨0x13, .izy b⟩
  | .nopZpx_14 b => ⟨0x14, .zpx b⟩
  | .oraZpx b => ⟨0x15, .zpx b⟩
  | .aslZpx b => ⟨0x16, .zpx b⟩
  | .sloZpx_17 b => ⟨0x17, .zpx b⟩
  | .clc => ⟨0x18, .imp⟩
  | .oraAbsy w => ⟨0x19, .absy w⟩
  | .nop_1A => ⟨0x1A, .imp⟩
  | .sloAbsy_1B w => ⟨0x1B, .absy w⟩
  | .nopAbsx_1C w => ⟨0x1C, .absx w⟩
  | .oraAbsx w => ⟨0x1D, .absx w⟩
  | .aslAbsx w => ⟨0x1E, .absx w⟩
  | .sloAbsx_1F w => ⟨0x1F, .absx w⟩
  | .jsr w => ⟨0x20, .abs w⟩
  | .andIzx b => ⟨0x21, .izx b⟩
  | .kil_22 => ⟨0x22, .imp⟩
  | .rlaIzx_23 b => ⟨0x23, .izx b⟩
  | .bitZp b => ⟨0x24, .zp b⟩
  | .andZp b => ⟨0x25, .zp b⟩
  | .rolZp b => ⟨0x26, .zp b⟩
  | .rlaZp_27 b => ⟨0x27, .zp b⟩
  | .plp => ⟨0x28, .imp⟩
  | .andImm b => ⟨0x29, .imm b⟩
  | .rolAcc => ⟨0x2A, .acc⟩
  | .ancImm_2B b => ⟨0x2B, .imm b⟩
  | .bitAbs w => ⟨0x2C, .abs w⟩
  | .andAbs w => ⟨0x2D, .abs w⟩
  | .rolAbs w => ⟨0x2E, .abs w⟩
  | .rlaAbs_2F w => ⟨0x2F, .abs w⟩
  | .bmi b => ⟨0x30, .rel b⟩
  | .andIzy b => ⟨0x31, .izy b⟩
  | .kil_32 => ⟨0x32, .imp⟩
  | .rlaIzy_33 b => ⟨0x33, .izy b⟩
  | .nopZpx_34 b => ⟨0x34, .zpx b⟩
  | .andZpx b => ⟨0x35, .zpx b⟩
  | .rolZpx b => ⟨0x36, .zpx b⟩
  | .rlaZpx_37 b => ⟨0x37, .zpx b⟩
  | .sec => ⟨0x38, .imp⟩
  | .andAbsy w => ⟨0x39, .absy w⟩
  | .nop_3A => ⟨0x3A, .imp⟩
  | .rlaAbsy_3B w => ⟨0x3B, .absy w⟩
  | .nopAbsx_3C w => ⟨0x3C, .absx w⟩
  | .andAbsx w => ⟨0x3D, .absx w⟩
  | .rolAbsx w => ⟨0x3E, .absx w⟩
  | .rlaAbsx_3F w => ⟨0x3F, .absx w⟩
  | .rti => ⟨0x40, .imp⟩
  | .eorIzx b => ⟨0x41, .izx b⟩
  | .kil_42 => ⟨0x42, .imp⟩
  | .sreIzx_43 b => ⟨0x43, .izx b⟩
  | .nopZp_44 b => ⟨0x44, .zp b⟩
  | .eorZp b => ⟨0x45, .zp b⟩
  | .lsrZp b => ⟨0x46, .zp b⟩
  | .sreZp_47 b => ⟨0x47, .zp b⟩
  | .pha => ⟨0x48, .imp⟩
  | .eorImm b => ⟨0x49, .imm b⟩
  | .lsrAcc => ⟨0x4A, .acc⟩
  | .alrImm_4B b => ⟨0x4B, .imm b⟩
  | .jmpAbs w => ⟨0x4C, .abs w⟩
  | .eorAbs w => ⟨0x4D, .abs w⟩
  | .lsrAbs w => ⟨0x4E, .abs w⟩
  | .sreAbs_4F w => ⟨0x4F, .abs w⟩
  | .bvc b => ⟨0x50, .rel b⟩
  | .eorIzy b => ⟨0x51, .izy b⟩
  | .kil_52 => ⟨0x52, .imp⟩
  | .sreIzy_53 b => ⟨0x53, .izy b⟩
  | .nopZpx_54 b => ⟨0x54, .zpx b⟩
  | .eorZpx b => ⟨0x55, .zpx b⟩
  | .lsrZpx b => ⟨0x56, .zpx b⟩
  | .sreZpx_57 b => ⟨0x57, .zpx b⟩
  | .cli => ⟨0x58, .imp⟩
  | .eorAbsy w => ⟨0x59, .absy w⟩
  | .nop_5A => ⟨0x5A, .imp⟩
  | .sreAbsy_5B w => ⟨0x5B, .absy w⟩
  | .nopAbsx_5C w => ⟨0x5C, .absx w⟩
  | .eorAbsx w => ⟨0x5D, .absx w⟩
  | .lsrAbsx w => ⟨0x5E, .absx w⟩
  | .sreAbsx_5F w => ⟨0x5F, .absx w⟩
  | .rts => ⟨0x60, .imp⟩
  | .adcIzx b => ⟨0x61, .izx b⟩
  | .kil_62 => ⟨0x62, .imp⟩
  | .rraIzx_63 b => ⟨0x63, .izx b⟩
  | .nopZp_64 b => ⟨0x64, .zp b⟩
  | .adcZp b => ⟨0x65, .zp b⟩
  | .rorZp b => ⟨0x66, .zp b⟩
  | .rraZp_67 b => ⟨0x67, .zp b⟩
  | .pla => ⟨0x68, .imp⟩
  | .adcImm b => ⟨0x69, .imm b⟩
  | .rorAcc => ⟨0x6A, .acc⟩
  | .arrImm_6B b => ⟨0x6B, .imm b⟩
  | .jmpInd w => ⟨0x6C, .ind w⟩
  | .adcAbs w => ⟨0x6D, .abs w⟩
  | .rorAbs w => ⟨0x6E, .abs w⟩
  | .rraAbs_6F w => ⟨0x6F, .abs w⟩
  | .bvs b => ⟨0x70, .rel b⟩
  | .adcIzy b => ⟨0x71, .izy b⟩
  | .kil_72 => ⟨0x72, .imp⟩
  | .rraIzy_73 b => ⟨0x73, .izy b⟩
  | .nopZpx_74 b => ⟨0x74, .zpx b⟩
  | .adcZpx b => ⟨0x75, .zpx b⟩
  | .rorZpx b => ⟨0x76, .zpx b⟩
  | .rraZpx_77 b => ⟨0x77, .zpx b⟩
  | .sei => ⟨0x78, .imp⟩
  | .adcAbsy w => ⟨0x79, .absy w⟩
  | .nop_7A => ⟨0x7A, .imp⟩
  | .rraAbsy_7B w => ⟨0x7B, .absy w⟩
  | .nopAbsx_7C w => ⟨0x7C, .absx w⟩
  | .adcAbsx w => ⟨0x7D, .absx w⟩
  | .rorAbsx w => ⟨0x7E, .absx w⟩
  | .rraAbsx_7F w => ⟨0x7F, .absx w⟩
  | .nopImm_80 b => ⟨0x80, .imm b⟩
  | .staIzx b => ⟨0x81, .izx b⟩
  | .nopImm_82 b => ⟨0x82, .imm b⟩
  | .saxIzx_83 b => ⟨0x83, .izx b⟩
  | .styZp b => ⟨0x84, .zp b⟩
  | .staZp b => ⟨0x85, .zp b⟩
  | .stxZp b => ⟨0x86, .zp b⟩
  | .saxZp_87 b => ⟨0x87, .zp b⟩
  | .dey => ⟨0x88, .imp⟩
  | .nopImm_89 b => ⟨0x89, .imm b⟩
  | .txa => ⟨0x8A, .imp⟩
  | .xaaImm_8B b => ⟨0x8B, .imm b⟩
  | .styAbs w => ⟨0x8C, .abs w⟩
  | .staAbs w => ⟨0x8D, .abs w⟩
  | .stxAbs w => ⟨0x8E, .abs w⟩
  | .saxAbs_8F w => ⟨0x8F, .abs w⟩
  | .bcc b => ⟨0x90, .rel b⟩
  | .staIzy b => ⟨0x91, .izy b⟩
  | .kil_92 => ⟨0x92, .imp⟩
  | .ahxIzy_93 b => ⟨0x93, .izy b⟩
  | .styZpx b => ⟨0x94, .zpx b⟩
  | .staZpx b => ⟨0x95, .zpx b⟩
  | .stxZpy b => ⟨0x96, .zpy b⟩
  | .saxZpy_97 b => ⟨0x97, .zpy b⟩
  | .tya => ⟨0x98, .imp⟩
  | .staAbsy w => ⟨0x99, .absy w⟩
  | .txs => ⟨0x9A, .imp⟩
  | .tasAbsy_9B w => ⟨0x9B, .absy w⟩
  | .shyAbsx_9C w => ⟨0x9C, .absx w⟩
  | .staAbsx w => ⟨0x9D, .absx w⟩
  | .shxAbsy_9E w => ⟨0x9E, .absy w⟩
  | .ahxAbsy_9F w => ⟨0x9F, .absy w⟩
  | .ldyImm b => ⟨0xA0, .imm b⟩
  | .ldaIzx b => ⟨0xA1, .izx b⟩
  | .ldxImm b => ⟨0xA2, .imm b⟩
  | .laxIzx_A3 b => ⟨0xA3, .izx b⟩
  | .ldyZp b => ⟨0xA4, .zp b⟩
  | .ldaZp b => ⟨0xA5, .zp b⟩
  | .ldxZp b => ⟨0xA6, .zp b⟩
  | .laxZp_A7 b => ⟨0xA7, .zp b⟩
  | .tay => ⟨0xA8, .imp⟩
  | .ldaImm b => ⟨0xA9, .imm b⟩
  | .tax => ⟨0xAA, .imp⟩
  | .laxImm_AB b => ⟨0xAB, .imm b⟩
  | .ldyAbs w => ⟨0xAC, .abs w⟩
  | .ldaAbs w => ⟨0xAD, .abs w⟩
  | .ldxAbs w => ⟨0xAE, .abs w⟩
  | .laxAbs_AF w => ⟨0xAF, .abs w⟩
  | .bcs b => ⟨0xB0, .rel b⟩
  | .ldaIzy b => ⟨0xB1, .izy b⟩
  | .kil_B2 => ⟨0xB2, .imp⟩
  | .laxIzy_B3 b => ⟨0xB3, .izy b⟩
  | .ldyZpx b => ⟨0xB4, .zpx b⟩
  | .ldaZpx b => ⟨0xB5, .zpx b⟩
  | .ldxZpy b => ⟨0xB6, .zpy b⟩
  | .laxZpy_B7 b => ⟨0xB7, .zpy b⟩
  | .clv => ⟨0xB8, .imp⟩
  | .ldaAbsy w => ⟨0xB9, .absy w⟩
  | .tsx => ⟨0xBA, .imp⟩
  | .lasAbsy_BB w => ⟨0xBB, .absy w⟩
  | .ldyAbsx w => ⟨0xBC, .absx w⟩
  | .ldaAbsx w => ⟨0xBD, .absx w⟩
  | .ldxAbsy w => ⟨0xBE, .absy w⟩
  | .laxAbsy_BF w => ⟨0xBF, .absy w⟩
  | .cpyImm b => ⟨0xC0, .imm b⟩
  | .cmpIzx b => ⟨0xC1, .izx b⟩
  | .nopImm_C2 b => ⟨0xC2, .imm b⟩
  | .dcpIzx_C3 b => ⟨0xC3, .izx b⟩
  | .cpyZp b => ⟨0xC4, .zp b⟩
  | .cmpZp b => ⟨0xC5, .zp b⟩
  | .decZp b => ⟨0xC6, .zp b⟩
  | .dcpZp_C7 b => ⟨0xC7, .zp b⟩
  | .iny => ⟨0xC8, .imp⟩
  | .cmpImm b => ⟨0xC9, .imm b⟩
  | .dex => ⟨0xCA, .imp⟩
  | .axsImm_CB b => ⟨0xCB, .imm b⟩
  | .cpyAbs w => ⟨0xCC, .abs w⟩
  | .cmpAbs w => ⟨0xCD, .abs w⟩
  | .decAbs w => ⟨0xCE, .abs w⟩
  | .dcpAbs_CF w => ⟨0xCF, .abs w⟩
  | .bne b => ⟨0xD0, .rel b⟩
  | .cmpIzy b => ⟨0xD1, .izy b⟩
  | .kil_D2 => ⟨0xD2, .imp⟩
  | .dcpIzy_D3 b => ⟨0xD3, .izy b⟩
  | .nopZpx_D4 b => ⟨0xD4, .zpx b⟩
  | .cmpZpx b => ⟨0xD5, .zpx b⟩
  | .decZpx b => ⟨0xD6, .zpx b⟩
  | .dcpZpx_D7 b => ⟨0xD7, .zpx b⟩
  | .cld => ⟨0xD8, .imp⟩
  | .cmpAbsy w => ⟨0xD9, .absy w⟩
  | .nop_DA => ⟨0xDA, .imp⟩
  | .dcpAbsy_DB w => ⟨0xDB, .absy w⟩
  | .nopAbsx_DC w => ⟨0xDC, .absx w⟩
  | .cmpAbsx w => ⟨0xDD, .absx w⟩
  | .decAbsx w => ⟨0xDE, .absx w⟩
  | .dcpAbsx_DF w => ⟨0xDF, .absx w⟩
  | .cpxImm b => ⟨0xE0, .imm b⟩
  | .sbcIzx b => ⟨0xE1, .izx b⟩
  | .nopImm_E2 b => ⟨0xE2, .imm b⟩
  | .iscIzx_E3 b => ⟨0xE3, .izx b⟩
  | .cpxZp b => ⟨0xE4, .zp b⟩
  | .sbcZp b => ⟨0xE5, .zp b⟩
  | .incZp b => ⟨0xE6, .zp b⟩
  | .iscZp_E7 b => ⟨0xE7, .zp b⟩
  | .inx => ⟨0xE8, .imp⟩
  | .sbcImm b => ⟨0xE9, .imm b⟩
  | .nop => ⟨0xEA, .imp⟩
  | .sbcImm_EB b => ⟨0xEB, .imm b⟩
  | .cpxAbs w => ⟨0xEC, .abs w⟩
  | .sbcAbs w => ⟨0xED, .abs w⟩
  | .incAbs w => ⟨0xEE, .abs w⟩
  | .iscAbs_EF w => ⟨0xEF, .abs w⟩
  | .beq b => ⟨0xF0, .rel b⟩
  | .sbcIzy b => ⟨0xF1, .izy b⟩
  | .kil_F2 => ⟨0xF2, .imp⟩
  | .iscIzy_F3 b => ⟨0xF3, .izy b⟩
  | .nopZpx_F4 b => ⟨0xF4, .zpx b⟩
  | .sbcZpx b => ⟨0xF5, .zpx b⟩
  | .incZpx b => ⟨0xF6, .zpx b⟩
  | .iscZpx_F7 b => ⟨0xF7, .zpx b⟩
  | .sed => ⟨0xF8, .imp⟩
  | .sbcAbsy w => ⟨0xF9, .absy w⟩
  | .nop_FA => ⟨0xFA, .imp⟩
  | .iscAbsy_FB w => ⟨0xFB, .absy w⟩
  | .nopAbsx_FC w => ⟨0xFC, .absx w⟩
  | .sbcAbsx w => ⟨0xFD, .absx w⟩
  | .incAbsx w => ⟨0xFE, .absx w⟩
  | .iscAbsx_FF w => ⟨0xFF, .absx w⟩

/-- The bytes of an instruction, the opcode first (R60, R61). -/
def encode (i : Instr) : List Byte :=
  i.code.opcode :: i.code.operand.bytes

/-- The descriptor of an instruction's opcode (R65). -/
def Instr.descriptor (i : Instr) : Descriptor := lookup i.code.opcode

/-- The operand of an instruction. -/
def Instr.operand (i : Instr) : Operand := i.code.operand

/-- The mnemonic of an instruction's row (R65). -/
def Instr.mnemonic (i : Instr) : Mnemonic := i.descriptor.mnemonic

/-- An instruction of class `documented` with the given mnemonic (R66: class, not mnemonic, decides). -/
def Instr.isDocumented (i : Instr) (m : Mnemonic) : Bool :=
  i.descriptor.opClass == .documented && i.descriptor.mnemonic == m

/-- An instruction of class `illegal` (R66). -/
def Instr.isIllegal (i : Instr) : Bool := i.descriptor.opClass == .illegal

end Sys2Proof
end

