-- ==== Sys2Proof/Machine/Memory.lean ====
section
/-! DEFINITION. A byte memory as plain data: the listed cells, in one canonical form. Each of the hardware's memories (work RAM,
PRG-RAM, program ROM, character memory, VRAM, palette, OAM: R25, R27, R28) is one such list, keyed by the offset inside it. -/

namespace Sys2Proof.Machine

/-- A memory: the cells whose byte differs from what an unlisted offset reads as, by rising offset. -/
abbrev Memory := List Host.Cell

/-- What an offset that nothing has written reads as. DESIGN CHOICE (log 2): the spec leaves power-on contents open (`INIT`,
D18); this model's reset has 0 everywhere. -/
def Memory.unlisted : Byte := 0

/-- The byte at an offset. -/
def Memory.read : Memory → Nat → Byte
  | [], _ => Memory.unlisted
  | (k, b) :: m, a => if k = a then b else Memory.read m a

/-- The cell to list for a byte at an offset: none when the byte is what an unlisted offset reads as. -/
def Memory.cell (a : Nat) (d : Byte) : Memory :=
  if d = Memory.unlisted then [] else [(a, d)]

/-- Store a byte at an offset, keeping the canonical form. -/
def Memory.write : Memory → Nat → Byte → Memory
  | [], a, d => Memory.cell a d
  | (k, b) :: m, a, d =>
    if k < a then (k, b) :: Memory.write m a d
    else if k = a then Memory.cell a d ++ m
    else Memory.cell a d ++ (k, b) :: m

/-- The memory that a list of bytes fills from offset `n` on, in canonical form; past the list nothing is listed. -/
def Memory.ofBytes : Nat → List Byte → Memory
  | _, [] => []
  | n, d :: ds => Memory.cell n d ++ Memory.ofBytes (n + 1) ds

/-- The first `size` bytes of a memory, in order. -/
def Memory.bytes (size : Nat) (m : Memory) : List Byte := (List.range size).map m.read

/-- The canonical form from offset `n` on: offsets strictly rising and at least `n`, no byte equal to the unlisted one. -/
def Memory.wfFrom : Nat → Memory → Bool
  | _, [] => true
  | n, (k, b) :: m => decide (n ≤ k) && b != Memory.unlisted && Memory.wfFrom (k + 1) m

/-- The canonical form: equal memories are equal lists. -/
def Memory.wf (m : Memory) : Bool := Memory.wfFrom 0 m

/-- Every listed offset is below the memory's size. -/
def Memory.below (size : Nat) (m : Memory) : Bool := m.all fun c => decide (c.1 < size)

end Sys2Proof.Machine
end

