-- ==== Sys2Proof/Machine/State.lean ====
section
/-! DEFINITION. The state of the hardware, every element of 10_state.md, as plain data; the reasons a step can stop; and the
state right after reset (R31, R193, R194). -/

namespace Sys2Proof.Machine

/-- The status record `P` (R13): all eight fields are stored, `B` and `U` too (D11). -/
structure Flags where
  c : Bool
  z : Bool
  i : Bool
  d : Bool
  b : Bool
  u : Bool
  v : Bool
  n : Bool
  deriving DecidableEq, Repr

/-- A request the pending slot can hold (R16): the NMI vector 0xFFFA or the IRQ vector 0xFFFE. -/
inductive Interrupt where
  | nmi | irq
  deriving DecidableEq, Repr

/-- A recorded model fault (R17, R157): what the sticky `fault` element of the state holds. -/
inductive FaultRecord where
  /-- An illegal opcode ran under `ILLEGAL_POLICY = fault` (R147): the opcode and its address. -/
  | illegalOpcode (op : Byte) (addr : Word)
  /-- An opcode or mode without a table entry (R148); the table is total, so nothing raises it (log 10). -/
  | internalConsistency (info : Nat)
  deriving DecidableEq, Repr

/-- A diagnostic event (R17): logged, never read by the machine (D42). -/
inductive Diag where
  | invalidRead (addr : Word)
  | invalidWrite (addr : Word) (v : Byte)
  | illegalOpcodeNop (op : Byte) (addr : Word)
  deriving DecidableEq, Repr

/-- The PPU control fields (R19). -/
structure PpuCtrl where
  incr32 : Bool
  spriteTable : Bool
  bgTable : Bool
  spriteSize16 : Bool
  masterSlave : Bool
  nmiOutput : Bool
  deriving DecidableEq, Repr

/-- The PPU mask fields (R20). -/
structure PpuMask where
  grayscale : Bool
  showLeftBg : Bool
  showLeftSprites : Bool
  showBg : Bool
  showSprites : Bool
  emphRed : Bool
  emphGreen : Bool
  emphBlue : Bool
  deriving DecidableEq, Repr

/-- The PPU's state (R18 to R26). `nmiOccurred` is the `vblank` flag: one bit, two names (R21, R30). -/
structure Ppu where
  v : BitVec 15
  t : BitVec 15
  x : BitVec 3
  w : Bool
  ctrl : PpuCtrl
  mask : PpuMask
  nmiOccurred : Bool
  sprite0Hit : Bool
  spriteOverflow : Bool
  nmiPrevious : Bool
  nmiDelay : Nat
  dot : Nat
  scanline : Nat
  frame : Nat
  oddFrame : Bool
  oamAddr : Byte
  readBuffer : Byte
  regLatch : Byte
  ntLatch : Byte
  atLatch : Byte
  loLatch : Byte
  hiLatch : Byte
  vram : Memory
  palette : Memory
  oam : Memory
  deriving DecidableEq, Repr

/-- The nametable mirroring modes 0 to 4 (R45); no other value can occur. -/
inductive Mirror where
  | horizontal | vertical | singleLower | singleUpper | fourScreen
  deriving DecidableEq, Repr

/-- The cartridge as the loader built it, with its memories (R28, R5): `PRG_PAGES`, `CHR_PAGES`, `MIRROR_MODE`. -/
structure Cartridge where
  prg : Memory
  chr : Memory
  prgRam : Memory
  prgPages : Nat
  chrPages : Nat
  mirror : Mirror
  deriving DecidableEq, Repr

/-- The state. `cfg` holds the parameters of R5 and is fixed by every step (log 4). `irqInput` and `draws` are the model's own:
the samples of the external IRQ line still to come (log 6), and the counter that every oracle draw advances (log 5). -/
structure State where
  a : Byte
  x : Byte
  y : Byte
  sp : Byte
  pc : Word
  p : Flags
  cycles : Nat
  pending : Option Interrupt
  fault : Option FaultRecord
  diag : List Diag
  ppu : Ppu
  ram : Memory
  cart : Cartridge
  cfg : Config
  irqInput : List Bool
  draws : Nat
  deriving DecidableEq, Repr

/-- Why the machine stops. -/
inductive Fault where
  /-- Raised by `step` alone, in a state whose `fault` is set: "a CPU with a fault takes no further step" (R17, R186). Safe: the
  spec runs nothing here either. -/
  | stuck (r : FaultRecord)
  deriving DecidableEq, Repr

/-- Why the model refuses: an instruction without a meaning, or a cartridge that is rejected before the run. -/
inductive Refusal where
  /-- Raised by an arm of `exec` whose instruction has no meaning yet; no arm does. Safe: the model stops. -/
  | notModelled (mnemonic : String)
  /-- Raised by `powerOn` alone, for a record whose `mapperType` is not the baseline mapper: "configuration-fatal, before the run"
  (R3(e), R157, K11, K12). No step raises it. Safe: the spec runs nothing of such a cartridge. -/
  | unsupportedMapper (id : Nat)
  /-- Raised by `powerOn` alone, for a record without a program-ROM page, which R5 excludes (`PRG_PAGES` at least 1; R157(a),
  log 14). No step raises it. Safe: nothing runs. -/
  | noProgramRom
  deriving DecidableEq, Repr

/-- The outcome of one step of this machine. -/
abbrev Result := Host.Outcome State Fault Refusal

/-- Every control field 0 (R19, R31). -/
def PpuCtrl.zero : PpuCtrl := ⟨false, false, false, false, false, false⟩

/-- Every mask field 0 (R20, R31). -/
def PpuMask.zero : PpuMask := ⟨false, false, false, false, false, false, false, false⟩

/-- The PPU at power-on and after reset (R31: the two columns agree on every item but the memories): every item 0; its memories as
given, `INIT` draws at power-on, unchanged by reset. -/
def Ppu.afterReset (vram palette oam : Memory) : Ppu where
  v := 0
  t := 0
  x := 0
  w := false
  ctrl := PpuCtrl.zero
  mask := PpuMask.zero
  nmiOccurred := false
  sprite0Hit := false
  spriteOverflow := false
  nmiPrevious := false
  nmiDelay := 0
  dot := 0
  scanline := 0
  frame := 0
  oddFrame := false
  oamAddr := 0
  readBuffer := 0
  regLatch := 0
  ntLatch := 0
  atLatch := 0
  loLatch := 0
  hiLatch := 0
  vram := vram
  palette := palette
  oam := oam

/-- A cartridge with nothing in it: one program page, one character-ROM page, vertical mirroring. DESIGN CHOICE (log 3): the
cartridge comes from the loader. -/
def Cartridge.blank : Cartridge where
  prg := []
  chr := []
  prgRam := []
  prgPages := 1
  chrPages := 1
  mirror := .vertical

/-- The status register at reset: I and U set, the value 0x24. DESIGN CHOICE (log 1): the spec leaves `P` an `INIT` draw and its
vectors (95) draw 0x24. -/
def Flags.atReset : Flags := ⟨false, false, true, false, false, true, false, false⟩

/-- The machine right after power-on and `Reset()` (R31, R193, R194), with the blank cartridge: SP = `RESET_SP`, PC the reset
vector's contents, the PPU zero, the slot empty. A, X, Y, P and the memories are `INIT` draws there, named values here (log 1,
log 2). Console.lean has the construction from any cartridge record and any draw; this state is one launch of it
(`launch_blank`). -/
def State.reset : State where
  a := 0
  x := 0
  y := 0
  sp := Config.default.resetSp
  pc := 0
  p := Flags.atReset
  cycles := 0
  pending := none
  fault := none
  diag := []
  ppu := Ppu.afterReset [] [] []
  ram := []
  cart := Cartridge.blank
  cfg := Config.default
  irqInput := []
  draws := 0

end Sys2Proof.Machine
end

