-- ==== Sys2Proof/Machine/Flags.lean ====
section
/-! DEFINITION. The status byte (R13) and every flag computation of the instruction set (R8, R104 to R123). A computation gives
the result byte and the flags after it. -/

namespace Sys2Proof.Machine

/-- `toByte(P)` (R13). -/
def Flags.toByte (p : Flags) : Byte := byteOfBits p.n p.v p.u p.b p.d p.i p.z p.c

/-- `fromByte(b)` (R13). -/
def Flags.fromByte (b : Byte) : Flags where
  c := b.getLsbD 0
  z := b.getLsbD 1
  i := b.getLsbD 2
  d := b.getLsbD 3
  b := b.getLsbD 4
  u := b.getLsbD 5
  v := b.getLsbD 6
  n := b.getLsbD 7

/-- `SetZN(v)` (R8). -/
def Flags.setZN (v : Byte) (p : Flags) : Flags := { p with z := v == 0, n := v.getLsbD 7 }

/-- A result byte and the flags after it. -/
structure Alu where
  value : Byte
  flags : Flags
  deriving DecidableEq, Repr

/-- Z and N of ADC and SBC: kept when the decimal flag is set (R105, R106, D36). -/
def Flags.setZNUnlessDecimal (v : Byte) (p : Flags) : Flags := if p.d then p else p.setZN v

/-- ADC (R105): the sum as a natural number, then its low 8 bits. -/
def adcResult (a m : Byte) (p : Flags) : Alu :=
  let sum := a.toNat + m.toNat + bit p.c
  let res := BitVec.ofNat 8 sum
  let ovf := ((a ^^^ res) &&& (m ^^^ res) &&& 0x80) != 0
  ⟨res, Flags.setZNUnlessDecimal res { p with c := decide (sum > 0xFF), v := ovf }⟩

/-- SBC (R106): the difference as an integer, then its residue modulo 256. -/
def sbcResult (a m : Byte) (p : Flags) : Alu :=
  let temp : Int := (a.toNat : Int) - (m.toNat : Int) - (1 - (bit p.c : Int))
  let res := BitVec.ofInt 8 temp
  let ovf := ((a ^^^ res) &&& ((m ^^^ 0xFF) ^^^ res) &&& 0x80) != 0
  ⟨res, Flags.setZNUnlessDecimal res { p with c := decide (temp ≥ 0), v := ovf }⟩

/-- The compare family (R111 to R113): carry when no borrow, Z and N of the difference; no result is stored. -/
def compareFlags (r m : Byte) (p : Flags) : Flags :=
  Flags.setZN (r - m) { p with c := decide (m.toNat ≤ r.toNat) }

/-- BIT (R110): Z of `A & m`, V and N from `m`. -/
def bitFlags (a m : Byte) (p : Flags) : Flags :=
  { p with z := a &&& m == 0, v := m.getLsbD 6, n := m.getLsbD 7 }

/-- A byte result that sets Z and N and no other flag. -/
def plainResult (r : Byte) (p : Flags) : Alu := ⟨r, p.setZN r⟩

/-- A shift or rotate: the result, the bit shifted out in C, Z and N of the result (43_shift_rotate.md). -/
def shiftResult (out : Bool) (r : Byte) (p : Flags) : Alu := ⟨r, Flags.setZN r { p with c := out }⟩

/-- ASL (R120). -/
def aslResult (v : Byte) (p : Flags) : Alu := shiftResult (v.getLsbD 7) (v <<< 1) p

/-- LSR (R121). -/
def lsrResult (v : Byte) (p : Flags) : Alu := shiftResult (v.getLsbD 0) (v >>> 1) p

/-- ROL (R122): the old carry enters at bit 0. -/
def rolResult (v : Byte) (p : Flags) : Alu :=
  shiftResult (v.getLsbD 7) ((v <<< 1) ||| BitVec.ofNat 8 (bit p.c)) p

/-- ROR (R123): the old carry enters at bit 7. -/
def rorResult (v : Byte) (p : Flags) : Alu :=
  shiftResult (v.getLsbD 0) ((v >>> 1) ||| (BitVec.ofNat 8 (bit p.c) <<< 7)) p

/-- INC (R114) and the register increments. -/
def incResult (v : Byte) (p : Flags) : Alu := plainResult (v + 1) p

/-- DEC (R115) and the register decrements. -/
def decResult (v : Byte) (p : Flags) : Alu := plainResult (v - 1) p

end Sys2Proof.Machine
end

