-- ==== Sys2Proof/Machine/Update.lean ====
section
/-! DEFINITION. The named updates of one element of the state; every other element stays. -/

namespace Sys2Proof.Machine

def State.setA (v : Byte) (s : State) : State := { s with a := v }
def State.setX (v : Byte) (s : State) : State := { s with x := v }
def State.setY (v : Byte) (s : State) : State := { s with y := v }
def State.setSp (v : Byte) (s : State) : State := { s with sp := v }
def State.setPc (v : Word) (s : State) : State := { s with pc := v }
def State.setP (v : Flags) (s : State) : State := { s with p := v }
def State.setPending (v : Option Interrupt) (s : State) : State := { s with pending := v }
def State.setPpu (v : Ppu) (s : State) : State := { s with ppu := v }
def State.setRam (v : Memory) (s : State) : State := { s with ram := v }
def State.setCart (v : Cartridge) (s : State) : State := { s with cart := v }
def State.setIrqInput (v : List Bool) (s : State) : State := { s with irqInput := v }

/-- `cycles += n` (R7, R15). -/
def State.addCycles (n : Nat) (s : State) : State := { s with cycles := s.cycles + n }

/-- `diag(kind, info)` (R7, R17): append a diagnostic event; nothing stops. -/
def State.logDiag (e : Diag) (s : State) : State := { s with diag := s.diag ++ [e] }

/-- `raise Fault(kind, info)` (R7, R17): record the sticky fault; one already recorded stays. -/
def State.raiseFault (r : FaultRecord) (s : State) : State := { s with fault := s.fault <|> some r }

/-- One oracle draw is used up (log 5). -/
def State.nextDraw (s : State) : State := { s with draws := s.draws + 1 }

end Sys2Proof.Machine
end

