-- ==== Sys2Proof/Machine/Ppu.lean ====
section
/-! DEFINITION. The PPU's own address space (R42 to R47), its register interface (R160 to R171) and the NMI edge detector
(R172). -/

namespace Sys2Proof.Machine

/-- What a PPU address selects (R43). -/
inductive PpuSubsystem where
  | chr | vram | palette
  deriving DecidableEq, Repr

/-- A subsystem and the offset inside it (R43). -/
structure PpuTarget where
  subsystem : PpuSubsystem
  offset : Nat
  deriving DecidableEq, Repr

/-- The physical quadrants of nametable quadrants 0 to 3, for each mode (R45). -/
def mirrorRow : Mirror → List Nat
  | .horizontal => [0, 0, 1, 1]
  | .vertical => [0, 1, 0, 1]
  | .singleLower => [0, 0, 0, 0]
  | .singleUpper => [1, 1, 1, 1]
  | .fourScreen => [0, 1, 2, 3]

/-- `NtIndex(a')` (R44), an index into `vram`. -/
def ntIndex (mode : Mirror) (a : Word) : Nat :=
  let off := (a - 0x2000) &&& 0x0FFF
  (mirrorRow mode).getD (off.toNat / 0x400) 0 * 0x400 + (off &&& 0x03FF).toNat

/-- `PalIndex(a')` (R46): entries 16, 20, 24 and 28 are entries 0, 4, 8 and 12. -/
def palIndex (a : Word) : Nat :=
  let i := (a &&& 0x1F).toNat
  if i = 16 ∨ i = 20 ∨ i = 24 ∨ i = 28 then i - 16 else i

/-- `PpuTranslate(a)` (R43), after the 14-bit mask of R42. -/
def ppuTranslate (mode : Mirror) (a : Word) : PpuTarget :=
  let b := a &&& 0x3FFF
  if b < 0x2000 then ⟨.chr, b.toNat⟩
  else if b < 0x3F00 then ⟨.vram, ntIndex mode b⟩
  else ⟨.palette, palIndex b⟩

/-- `PpuRead(a)` (R47); no side effect. -/
def ppuRead (s : State) (a : Word) : Byte :=
  let t := ppuTranslate s.cart.mirror a
  match t.subsystem with
  | .chr => s.cart.chr.read t.offset
  | .vram => s.ppu.vram.read t.offset
  | .palette => s.ppu.palette.read t.offset

/-- `ChrWrite(o, d)` (R40): a store when the cartridge has character RAM, nothing when it has character ROM. -/
def chrWrite (o : Nat) (d : Byte) (c : Cartridge) : Cartridge :=
  if c.chrPages = 0 then { c with chr := c.chr.write o d } else c

/-- `PpuWrite(a, d)` (R47). -/
def ppuWrite (a : Word) (d : Byte) (s : State) : State :=
  let t := ppuTranslate s.cart.mirror a
  match t.subsystem with
  | .chr => s.setCart (chrWrite t.offset d s.cart)
  | .vram => s.setPpu { s.ppu with vram := s.ppu.vram.write t.offset d }
  | .palette => s.setPpu { s.ppu with palette := s.ppu.palette.write t.offset d }

/-- `renderingEnabled` (R20). -/
def Ppu.renderingEnabled (p : Ppu) : Bool := p.mask.showBg || p.mask.showSprites

/-- `NmiChange()` (R172): a rising edge of `nmiOutput & nmiOccurred` arms the delay. -/
def Ppu.nmiChange (delay : Nat) (p : Ppu) : Ppu :=
  let nmi := p.ctrl.nmiOutput && p.nmiOccurred
  { p with nmiDelay := if nmi && !p.nmiPrevious then delay else p.nmiDelay, nmiPrevious := nmi }

/-- The eight registers of the PPU window, by select number (R160). -/
inductive PpuReg where
  | ctrl | mask | status | oamAddr | oamData | scroll | addr | data
  deriving DecidableEq, Repr

/-- The register of a select number (R160). -/
def PpuReg.ofSel (sel : BitVec 3) : PpuReg :=
  match sel.toNat with
  | 0 => .ctrl
  | 1 => .mask
  | 2 => .status
  | 3 => .oamAddr
  | 4 => .oamData
  | 5 => .scroll
  | 6 => .addr
  | _ => .data

/-- The CPU address of a register, 0x2000 + sel (R160). -/
def PpuReg.address : PpuReg → Word
  | .ctrl => 0x2000
  | .mask => 0x2001
  | .status => 0x2002
  | .oamAddr => 0x2003
  | .oamData => 0x2004
  | .scroll => 0x2005
  | .addr => 0x2006
  | .data => 0x2007

/-- The address of PPU data accesses, `v & 0x3FFF` (R18). -/
def Ppu.dataAddress (p : Ppu) : Word := p.v.setWidth 16 &&& 0x3FFF

/-- The increment of `v` after a PPUDATA access, by 1 or 32 in 15 bits (R169, R170, D27). -/
def Ppu.stepV (p : Ppu) : Ppu := { p with v := p.v + (if p.ctrl.incr32 then 32 else 1) }

/-- The PPUSTATUS byte (R21). -/
def Ppu.statusByte (p : Ppu) : Byte :=
  byteOfBits p.nmiOccurred p.sprite0Hit p.spriteOverflow false false false false false |||
  (p.regLatch &&& 0x1F)

/-- PPUSTATUS read, the state part (R164): `vblank` and `w` are cleared, and the edge detector sees it. -/
def Ppu.afterStatusRead (delay : Nat) (p : Ppu) : Ppu :=
  { Ppu.nmiChange delay { p with nmiOccurred := false } with w := false }

/-- PPUDATA read, the byte returned (R169): the buffer below the palette, the palette byte in it. -/
def ppuDataByte (s : State) : Byte :=
  if s.ppu.dataAddress < 0x3F00 then s.ppu.readBuffer else ppuRead s s.ppu.dataAddress

/-- PPUDATA read, the byte the buffer takes (R169): the byte read, or in the palette the byte 0x1000 below. -/
def ppuDataBuffer (s : State) : Byte :=
  if s.ppu.dataAddress < 0x3F00 then ppuRead s s.ppu.dataAddress
  else ppuRead s (s.ppu.dataAddress - 0x1000)

/-- A read of a write-only register (R171, D25): 0, with a diagnostic event. -/
def ppuWriteOnlyRead (r : PpuReg) (s : State) : Byte × State :=
  (0, s.logDiag (.invalidRead r.address))

/-- `PpuRegRead(sel)` (R160, R164, R166, R169, R171), with its side effects. -/
def ppuRegRead (r : PpuReg) (s : State) : Byte × State :=
  match r with
  | .status => (s.ppu.statusByte, s.setPpu (s.ppu.afterStatusRead s.cfg.nmiDelay))
  | .oamData => (s.ppu.oam.read s.ppu.oamAddr.toNat, s)
  | .data => (ppuDataByte s, s.setPpu (Ppu.stepV { s.ppu with readBuffer := ppuDataBuffer s }))
  | .ctrl => ppuWriteOnlyRead .ctrl s
  | .mask => ppuWriteOnlyRead .mask s
  | .oamAddr => ppuWriteOnlyRead .oamAddr s
  | .scroll => ppuWriteOnlyRead .scroll s
  | .addr => ppuWriteOnlyRead .addr s

/-- PPUCTRL write (R162): the nametable bits into `t`, the fields, then the edge detector. -/
def Ppu.writeCtrl (delay : Nat) (d : Byte) (p : Ppu) : Ppu :=
  Ppu.nmiChange delay { p with
    t := (p.t &&& 0x73FF) ||| field15 (d &&& 0x03) 10
    ctrl := {
      incr32 := d.getLsbD 2
      spriteTable := d.getLsbD 3
      bgTable := d.getLsbD 4
      spriteSize16 := d.getLsbD 5
      masterSlave := d.getLsbD 6
      nmiOutput := d.getLsbD 7 } }

/-- PPUMASK write (R163). -/
def Ppu.writeMask (d : Byte) (p : Ppu) : Ppu :=
  { p with mask := {
      grayscale := d.getLsbD 0
      showLeftBg := d.getLsbD 1
      showLeftSprites := d.getLsbD 2
      showBg := d.getLsbD 3
      showSprites := d.getLsbD 4
      emphRed := d.getLsbD 5
      emphGreen := d.getLsbD 6
      emphBlue := d.getLsbD 7 } }

/-- OAMDATA write (R166): store at `oamAddr`, which then increments in 8 bits. -/
def Ppu.writeOamData (d : Byte) (p : Ppu) : Ppu :=
  { p with oam := p.oam.write p.oamAddr.toNat d, oamAddr := p.oamAddr + 1 }

/-- PPUSCROLL write (R167), by the write toggle. -/
def Ppu.writeScroll (d : Byte) (p : Ppu) : Ppu :=
  let coarse : Byte := d >>> 3
  if p.w then
    { p with
      t := (p.t &&& 0x0C1F) ||| field15 (d &&& 0x07) 12 ||| field15 coarse 5
      w := false }
  else
    { p with
      t := (p.t &&& 0x7FE0) ||| field15 coarse 0
      x := (d &&& 0x07).setWidth 3
      w := true }

/-- PPUADDR write (R168), by the write toggle. -/
def Ppu.writeAddr (d : Byte) (p : Ppu) : Ppu :=
  if p.w then
    let t := (p.t &&& 0x7F00) ||| field15 d 0
    { p with t := t, v := t, w := false }
  else
    { p with t := (p.t &&& 0x00FF) ||| field15 (d &&& 0x3F) 8, w := true }

/-- PPUDATA write (R170): the byte is stored at once, then `v` steps. -/
def ppuDataWrite (d : Byte) (s : State) : State :=
  let t := ppuWrite s.ppu.dataAddress d s
  t.setPpu t.ppu.stepV

/-- `PpuRegWrite(sel, d)` (R161): the register latch first, then the register's action. -/
def ppuRegWrite (r : PpuReg) (d : Byte) (s : State) : State :=
  let p := { s.ppu with regLatch := d }
  match r with
  | .ctrl => s.setPpu (p.writeCtrl s.cfg.nmiDelay d)
  | .mask => s.setPpu (p.writeMask d)
  | .status => s.setPpu p
  | .oamAddr => s.setPpu { p with oamAddr := d }
  | .oamData => s.setPpu (p.writeOamData d)
  | .scroll => s.setPpu (p.writeScroll d)
  | .addr => s.setPpu (p.writeAddr d)
  | .data => ppuDataWrite d (s.setPpu p)

end Sys2Proof.Machine
end

