-- ==== Sys2Proof/Machine/Ops.lean ====
section
/-! DEFINITION. The named operations over memory and registers: the CPU-side translator (R33), the baseline mapper (R38, R39),
the bus (R34 to R37), OAM DMA (R184), the stack (R48), taking an exception and returning from one (R136, R137, R153), and the
reset operation (R193). -/

namespace Sys2Proof.Machine

/-- What a CPU address selects (R33). -/
inductive CpuSubsystem where
  | ram | ppuReg | oamDma | apuStatus | port1 | port2 | invalid | mapper
  deriving DecidableEq, Repr

/-- A subsystem and the local offset (R33). -/
structure CpuTarget where
  subsystem : CpuSubsystem
  offset : Word
  deriving DecidableEq, Repr

/-- `CpuTranslate(a)` (R33). -/
def cpuTranslate (a : Word) : CpuTarget :=
  if a < 0x2000 then ⟨.ram, a &&& 0x07FF⟩
  else if a < 0x4000 then ⟨.ppuReg, 0x2000 + (a &&& 7)⟩
  else if a = 0x4014 then ⟨.oamDma, 0⟩
  else if a = 0x4015 then ⟨.apuStatus, 0⟩
  else if a = 0x4016 then ⟨.port1, 0⟩
  else if a = 0x4017 then ⟨.port2, 0⟩
  else if a < 0x6000 then ⟨.invalid, a⟩
  else ⟨.mapper, a⟩

/-- The register of a PPU window offset, by its low three bits (R34, R35, R160). -/
def ppuRegOf (offset : Word) : PpuReg := PpuReg.ofSel (offset.setWidth 3)

/-- The offset in program ROM of a mapper address from 0x8000 on (R38, D47). -/
def prgOffset (c : Cartridge) (a : Word) : Nat := (a.toNat - 0x8000) % (c.prgPages * 0x4000)

/-- `MapperRead(a)` (R38). -/
def mapperRead (c : Cartridge) (a : Word) : Byte :=
  if a < 0x8000 then c.prgRam.read (a.toNat - 0x6000) else c.prg.read (prgOffset c a)

/-- `MapperWrite(a, d)` (R39): PRG-RAM takes the byte, program ROM ignores it. -/
def mapperWrite (a : Word) (d : Byte) (c : Cartridge) : Cartridge :=
  if a < 0x8000 then { c with prgRam := c.prgRam.write (a.toNat - 0x6000) d } else c

/-- `MemRead(a)` (R34), with every side effect of the addressed subsystem. -/
def memRead (a : Word) (s : State) : Byte × State :=
  let t := cpuTranslate a
  match t.subsystem with
  | .ram => (s.ram.read t.offset.toNat, s)
  | .ppuReg => ppuRegRead (ppuRegOf t.offset) s
  | .oamDma => (0, s.logDiag (.invalidRead a))
  | .apuStatus => (Config.apuStatusRead s.draws, s.nextDraw)
  | .port1 => (Config.inputRead .port1 s.draws, s.nextDraw)
  | .port2 => (Config.inputRead .port2 s.draws, s.nextDraw)
  | .invalid => (0, s.logDiag (.invalidRead a))
  | .mapper => (mapperRead s.cart t.offset, s)

/-- The copy loop of OAM DMA (R184): `n` bytes from page `d`, from index `i` on, each one bus read. -/
def dmaCopy (d : Byte) : Nat → Nat → State → State
  | 0, _, s => s
  | n + 1, i, s =>
    let index := BitVec.ofNat 8 i
    let r := memRead (wordOf d index) s
    let p := r.2.ppu
    dmaCopy d n (i + 1)
      (r.2.setPpu { p with oam := p.oam.write (p.oamAddr + index).toNat r.1 })

/-- `OamDma(d)` (R184): 256 bytes, then 513 cycles, plus 1 when the counter is odd before the add (D50). -/
def oamDma (d : Byte) (s : State) : State :=
  let s := dmaCopy d 256 0 s
  s.addCycles (513 + s.cycles % 2)

/-- `MemWrite(a, d)` (R35). A byte for the audio unit or the input layer is handed out and changes nothing (R185). -/
def memWrite (a : Word) (d : Byte) (s : State) : State :=
  let t := cpuTranslate a
  match t.subsystem with
  | .ram => s.setRam (s.ram.write t.offset.toNat d)
  | .ppuReg => ppuRegWrite (ppuRegOf t.offset) d s
  | .oamDma => oamDma d s
  | .apuStatus => s
  | .port1 => s
  | .port2 => s
  | .invalid => s.logDiag (.invalidWrite a d)
  | .mapper => s.setCart (mapperWrite t.offset d s.cart)

/-- Two bus reads that make one 16-bit value, the low byte's address first. -/
def memReadPair (low high : Word) (s : State) : Word × State :=
  let l := memRead low s
  let h := memRead high l.2
  (wordOf h.1 l.1, h.2)

/-- `MemRead16(a)` (R36). -/
def memRead16 (a : Word) (s : State) : Word × State := memReadPair a (a + 1) s

/-- `MemReadBug16(a)` (R37): the high byte comes from the same page. -/
def memReadBug16 (a : Word) (s : State) : Word × State :=
  memReadPair a (wordOf (hi a) (lo a + 1)) s

/-- `MemWrite16(a, w)` (R36); no instruction uses it. -/
def memWrite16 (a : Word) (w : Word) (s : State) : State :=
  memWrite (a + 1) (hi w) (memWrite a (lo w) s)

/-- The address of the byte `SP` designates, `0x0100 | SP` (R11). -/
def stackAddress (sp : Byte) : Word := 0x0100 ||| zext16 sp

/-- `Push(d)` (R48). -/
def push (d : Byte) (s : State) : State :=
  (memWrite (stackAddress s.sp) d s).setSp (s.sp - 1)

/-- `Pop()` (R48). -/
def pop (s : State) : Byte × State :=
  memRead (stackAddress (s.sp + 1)) (s.setSp (s.sp + 1))

/-- `Push16(w)` (R48): the high byte, then the low byte. -/
def push16 (w : Word) (s : State) : State := push (lo w) (push (hi w) s)

/-- `Pop16()` (R48): the low byte, then the high byte. -/
def pop16 (s : State) : Word × State :=
  let l := pop s
  let h := pop l.2
  (wordOf h.1 l.1, h.2)

/-- The vector of a pending request (R16, R59). -/
def Interrupt.vector : Interrupt → Word
  | .nmi => 0xFFFA
  | .irq => 0xFFFE

/-- The reset vector (R59, R193). -/
def resetVector : Word := 0xFFFC

/-- Taking an exception (R136, R153): push the return address and the status byte, set `I`, and load `PC` from the vector. -/
def takeException (ret : Word) (status : Byte) (vector : Word) (s : State) : State :=
  let s := push status (push16 ret s)
  let s := s.setP { s.p with i := true }
  let target := memRead16 vector s
  target.2.setPc target.1

/-- Returning from an exception (R137, R156): pop all eight flags, then `PC`, with no increment. -/
def returnFromException (s : State) : State :=
  let status := pop s
  let target := pop16 (status.2.setP (Flags.fromByte status.1))
  target.2.setPc target.1

/-- `ServiceInterrupt(vec)` (R153): the slot empties, B is pushed as 0, 7 cycles. -/
def serviceInterrupt (k : Interrupt) (s : State) : State :=
  (takeException s.pc (s.p.toByte &&& 0xEF) k.vector (s.setPending none)).addCycles 7

/-- `Console.reset()` (R193): the PPU to its reset values with its memories kept, the slot empty, SP, then PC from the vector. -/
def consoleReset (s : State) : State :=
  let s := s.setPpu (Ppu.afterReset s.ppu.vram s.ppu.palette s.ppu.oam)
  let s := (s.setPending none).setSp s.cfg.resetSp
  let target := memRead16 resetVector s
  target.2.setPc target.1

end Sys2Proof.Machine
end

