-- ==== Sys2Proof/Machine/Operands.lean ====
section
/-! DEFINITION. The addressing-mode resolver (R70 to R84), the operand accesses of the handlers, and the part of a CPU step that
is the same for every instruction: resolve, advance `PC`, account cycles, run the handler (R69, R85, R86, R147). -/

namespace Sys2Proof.Machine

/-- What the resolver reports (R70): the effective address, the page cross, and the state after its pointer reads. -/
structure Resolved where
  addr : Word
  crossed : Bool
  st : State

/-- Index addition changed the high byte of the address (R84). -/
def pageCrossed (base addr : Word) : Bool := hi base != hi addr

/-- An address without pointer reads or page cross. -/
def Resolved.plain (addr : Word) (s : State) : Resolved := ⟨addr, false, s⟩

/-- An indexed address: the base plus the index, and whether the page changed (R78, R79, R81). -/
def Resolved.indexed (base : Word) (index : Byte) (s : State) : Resolved :=
  ⟨base + zext16 index, pageCrossed base (base + zext16 index), s⟩

/-- A 16-bit pointer in zero page, wrapping inside it (R80, R81). -/
def readZeroPagePointer (p : Byte) (s : State) : Word × State :=
  memReadPair (zext16 p) (zext16 (p + 1)) s

/-- `Resolve(mode, opAddr)` (R70 to R83) in a state whose `PC` is the opcode's address; the operand bytes are the instruction's
(R61), read by the fetch. -/
def resolve (o : Operand) (s : State) : Resolved :=
  match o with
  | .imp => .plain 0 s
  | .acc => .plain 0 s
  | .imm _ => .plain (s.pc + 1) s
  | .zp b => .plain (zext16 b) s
  | .zpx b => .plain (zext16 (b + s.x)) s
  | .zpy b => .plain (zext16 (b + s.y)) s
  | .izx b =>
    let r := readZeroPagePointer (b + s.x) s
    .plain r.1 r.2
  | .izy b =>
    let r := readZeroPagePointer b s
    .indexed r.1 s.y r.2
  | .rel b => .plain (s.pc + 2 + sext16 b) s
  | .abs w => .plain w s
  | .absx w => .indexed w s.x s
  | .absy w => .indexed w s.y s
  | .ind w =>
    let r := memReadBug16 w s
    .plain r.1 r.2

/-- The operand byte a handler reads: the data byte of an immediate (read at `addr = opAddr + 1` by the fetch, R73, log 8), `A`
in accumulator mode, else the byte at `addr` (43_shift_rotate.md `Load`). -/
def loadOperand (o : Operand) (addr : Word) (s : State) : Byte × State :=
  match o with
  | .imm b => (b, s)
  | .acc => (s.a, s)
  | _ => memRead addr s

/-- The byte a handler writes back: to `A` in accumulator mode, else to `addr` (43_shift_rotate.md `Store`). -/
def storeOperand (o : Operand) (addr : Word) (r : Byte) (s : State) : State :=
  match o with
  | .acc => s.setA r
  | _ => memWrite addr r s

/-- A mnemonic's handler: it gets the operand and its effective address, with `PC` already past the instruction (R86). -/
abbrev Handler := Operand → Word → State → State

/-- The cycles of an opcode before its handler runs: base, and page cycles on a page cross (R69, R85). -/
def tableCycles (d : Descriptor) (crossed : Bool) : Nat :=
  d.cycles + if crossed then d.pageCycles else 0

/-- The step of R69 up to the handler: resolve, `PC` past the instruction, cycles. -/
def startInstr (op : Byte) (o : Operand) (s : State) : Resolved :=
  let r := resolve o s
  let d := lookup op
  { r with
    st := (r.st.setPc (s.pc + BitVec.ofNat 16 d.size)).addCycles (tableCycles d r.crossed) }

/-- An instruction of class `documented` (R86): its handler runs. -/
def documented (op : Byte) (o : Operand) (h : Handler) (s : State) : Result :=
  let r := startInstr op o s
  .next (h o r.addr r.st)

/-- `ExecuteIllegal(op, opAddr)` (R147): the sticky fault or the diagnostic event, by the policy; no data access. -/
def executeIllegal (op : Byte) (opAddr : Word) (s : State) : State :=
  match s.cfg.illegalPolicy with
  | .fault => s.raiseFault (.illegalOpcode op opAddr)
  | .nop => s.logDiag (.illegalOpcodeNop op opAddr)

/-- An instruction of class `illegal` (R147): the step runs as for any opcode, then the policy. -/
def illegal (op : Byte) (o : Operand) (s : State) : Result :=
  .next (executeIllegal op s.pc (startInstr op o s).st)

/-- A handler that loads a register and sets Z and N from it (R88 to R90). -/
def loadInto (set : Byte → State → State) : Handler := fun o addr s =>
  let m := loadOperand o addr s
  (set m.1 m.2).setP (m.2.p.setZN m.1)

/-- A handler that copies a register and sets Z and N from it (R94 to R98). -/
def transfer (get : State → Byte) (set : Byte → State → State) : Handler := fun _ _ s =>
  (set (get s) s).setP (s.p.setZN (get s))

/-- A handler that stores a register at the effective address (R91 to R93). -/
def storeFrom (get : State → Byte) : Handler := fun _ addr s => memWrite addr (get s) s

/-- A handler that combines `A` and the operand byte into `A` and the flags (R105 to R109). -/
def accumulate (f : Byte → Byte → Flags → Alu) : Handler := fun o addr s =>
  let m := loadOperand o addr s
  let r := f m.2.a m.1 m.2.p
  (m.2.setA r.value).setP r.flags

/-- A handler that compares a register with the operand byte (R111 to R113). -/
def compareWith (get : State → Byte) : Handler := fun o addr s =>
  let m := loadOperand o addr s
  m.2.setP (compareFlags (get m.2) m.1 m.2.p)

/-- A handler that reads the operand byte, writes the result back and sets the flags (R114, R115, R120 to R123). -/
def modify (f : Byte → Flags → Alu) : Handler := fun o addr s =>
  let m := loadOperand o addr s
  let r := f m.1 m.2.p
  (storeOperand o addr r.value m.2).setP r.flags

/-- A handler that computes on one register and sets the flags (R116 to R119). -/
def modifyRegister (get : State → Byte) (set : Byte → State → State) (f : Byte → Flags → Alu) :
    Handler := fun _ _ s =>
  let r := f (get s) s.p
  (set r.value s).setP r.flags

/-- A handler that writes flags only (R139 to R145). -/
def setFlags (f : Flags → Flags) : Handler := fun _ _ s => s.setP (f s.p)

/-- `Branch(cond)` (R124): the penalties of a taken branch, and the target. -/
def branch (cond : Flags → Bool) : Handler := fun _ addr s =>
  if cond s.p then (s.addCycles (1 + bit (pageCrossed s.pc addr))).setPc addr else s

end Sys2Proof.Machine
end

