-- ==== Sys2Proof/Machine/Arith.lean ====
section
/-! DEFINITION. Arithmetic (R104 to R106), compares (R111 to R113), increments and decrements (R114 to R119). -/

namespace Sys2Proof.Machine

/-- ADC (R105). -/
def handleAdc : Handler := accumulate adcResult

/-- SBC (R106), the documented opcodes. -/
def handleSbc : Handler := accumulate sbcResult

/-- CMP (R111). -/
def handleCmp : Handler := compareWith State.a

/-- CPX (R112). -/
def handleCpx : Handler := compareWith State.x

/-- CPY (R113). -/
def handleCpy : Handler := compareWith State.y

/-- INC (R114): one read, then one write. -/
def handleInc : Handler := modify incResult

/-- DEC (R115): one read, then one write. -/
def handleDec : Handler := modify decResult

/-- INX (R116). -/
def handleInx : Handler := modifyRegister State.x State.setX incResult

/-- INY (R117). -/
def handleIny : Handler := modifyRegister State.y State.setY incResult

/-- DEX (R118). -/
def handleDex : Handler := modifyRegister State.x State.setX decResult

/-- DEY (R119). -/
def handleDey : Handler := modifyRegister State.y State.setY decResult

/-- 0x61 ADC, mode izx (R105). -/
def execAdcIzx (b : Byte) (s : State) : Result := documented 0x61 (.izx b) handleAdc s

/-- 0x65 ADC, mode zp (R105). -/
def execAdcZp (b : Byte) (s : State) : Result := documented 0x65 (.zp b) handleAdc s

/-- 0x69 ADC, mode imm (R105). -/
def execAdcImm (b : Byte) (s : State) : Result := documented 0x69 (.imm b) handleAdc s

/-- 0x6D ADC, mode abs (R105). -/
def execAdcAbs (w : Word) (s : State) : Result := documented 0x6D (.abs w) handleAdc s

/-- 0x71 ADC, mode izy (R105). -/
def execAdcIzy (b : Byte) (s : State) : Result := documented 0x71 (.izy b) handleAdc s

/-- 0x75 ADC, mode zpx (R105). -/
def execAdcZpx (b : Byte) (s : State) : Result := documented 0x75 (.zpx b) handleAdc s

/-- 0x79 ADC, mode absy (R105). -/
def execAdcAbsy (w : Word) (s : State) : Result := documented 0x79 (.absy w) handleAdc s

/-- 0x7D ADC, mode absx (R105). -/
def execAdcAbsx (w : Word) (s : State) : Result := documented 0x7D (.absx w) handleAdc s

/-- 0x88 DEY, mode imp (R119). -/
def execDey (s : State) : Result := documented 0x88 .imp handleDey s

/-- 0xC0 CPY, mode imm (R113). -/
def execCpyImm (b : Byte) (s : State) : Result := documented 0xC0 (.imm b) handleCpy s

/-- 0xC1 CMP, mode izx (R111). -/
def execCmpIzx (b : Byte) (s : State) : Result := documented 0xC1 (.izx b) handleCmp s

/-- 0xC4 CPY, mode zp (R113). -/
def execCpyZp (b : Byte) (s : State) : Result := documented 0xC4 (.zp b) handleCpy s

/-- 0xC5 CMP, mode zp (R111). -/
def execCmpZp (b : Byte) (s : State) : Result := documented 0xC5 (.zp b) handleCmp s

/-- 0xC6 DEC, mode zp (R115). -/
def execDecZp (b : Byte) (s : State) : Result := documented 0xC6 (.zp b) handleDec s

/-- 0xC8 INY, mode imp (R117). -/
def execIny (s : State) : Result := documented 0xC8 .imp handleIny s

/-- 0xC9 CMP, mode imm (R111). -/
def execCmpImm (b : Byte) (s : State) : Result := documented 0xC9 (.imm b) handleCmp s

/-- 0xCA DEX, mode imp (R118). -/
def execDex (s : State) : Result := documented 0xCA .imp handleDex s

/-- 0xCC CPY, mode abs (R113). -/
def execCpyAbs (w : Word) (s : State) : Result := documented 0xCC (.abs w) handleCpy s

/-- 0xCD CMP, mode abs (R111). -/
def execCmpAbs (w : Word) (s : State) : Result := documented 0xCD (.abs w) handleCmp s

/-- 0xCE DEC, mode abs (R115). -/
def execDecAbs (w : Word) (s : State) : Result := documented 0xCE (.abs w) handleDec s

/-- 0xD1 CMP, mode izy (R111). -/
def execCmpIzy (b : Byte) (s : State) : Result := documented 0xD1 (.izy b) handleCmp s

/-- 0xD5 CMP, mode zpx (R111). -/
def execCmpZpx (b : Byte) (s : State) : Result := documented 0xD5 (.zpx b) handleCmp s

/-- 0xD6 DEC, mode zpx (R115). -/
def execDecZpx (b : Byte) (s : State) : Result := documented 0xD6 (.zpx b) handleDec s

/-- 0xD9 CMP, mode absy (R111). -/
def execCmpAbsy (w : Word) (s : State) : Result := documented 0xD9 (.absy w) handleCmp s

/-- 0xDD CMP, mode absx (R111). -/
def execCmpAbsx (w : Word) (s : State) : Result := documented 0xDD (.absx w) handleCmp s

/-- 0xDE DEC, mode absx (R115). -/
def execDecAbsx (w : Word) (s : State) : Result := documented 0xDE (.absx w) handleDec s

/-- 0xE0 CPX, mode imm (R112). -/
def execCpxImm (b : Byte) (s : State) : Result := documented 0xE0 (.imm b) handleCpx s

/-- 0xE1 SBC, mode izx (R106). -/
def execSbcIzx (b : Byte) (s : State) : Result := documented 0xE1 (.izx b) handleSbc s

/-- 0xE4 CPX, mode zp (R112). -/
def execCpxZp (b : Byte) (s : State) : Result := documented 0xE4 (.zp b) handleCpx s

/-- 0xE5 SBC, mode zp (R106). -/
def execSbcZp (b : Byte) (s : State) : Result := documented 0xE5 (.zp b) handleSbc s

/-- 0xE6 INC, mode zp (R114). -/
def execIncZp (b : Byte) (s : State) : Result := documented 0xE6 (.zp b) handleInc s

/-- 0xE8 INX, mode imp (R116). -/
def execInx (s : State) : Result := documented 0xE8 .imp handleInx s

/-- 0xE9 SBC, mode imm (R106). -/
def execSbcImm (b : Byte) (s : State) : Result := documented 0xE9 (.imm b) handleSbc s

/-- 0xEC CPX, mode abs (R112). -/
def execCpxAbs (w : Word) (s : State) : Result := documented 0xEC (.abs w) handleCpx s

/-- 0xED SBC, mode abs (R106). -/
def execSbcAbs (w : Word) (s : State) : Result := documented 0xED (.abs w) handleSbc s

/-- 0xEE INC, mode abs (R114). -/
def execIncAbs (w : Word) (s : State) : Result := documented 0xEE (.abs w) handleInc s

/-- 0xF1 SBC, mode izy (R106). -/
def execSbcIzy (b : Byte) (s : State) : Result := documented 0xF1 (.izy b) handleSbc s

/-- 0xF5 SBC, mode zpx (R106). -/
def execSbcZpx (b : Byte) (s : State) : Result := documented 0xF5 (.zpx b) handleSbc s

/-- 0xF6 INC, mode zpx (R114). -/
def execIncZpx (b : Byte) (s : State) : Result := documented 0xF6 (.zpx b) handleInc s

/-- 0xF9 SBC, mode absy (R106). -/
def execSbcAbsy (w : Word) (s : State) : Result := documented 0xF9 (.absy w) handleSbc s

/-- 0xFD SBC, mode absx (R106). -/
def execSbcAbsx (w : Word) (s : State) : Result := documented 0xFD (.absx w) handleSbc s

/-- 0xFE INC, mode absx (R114). -/
def execIncAbsx (w : Word) (s : State) : Result := documented 0xFE (.absx w) handleInc s

end Sys2Proof.Machine
end

