-- ==== Sys2Proof/Machine/Control.lean ====
section
/-! DEFINITION. Branches (R124 to R132), jumps and subroutines (R133 to R135), BRK and RTI (R136, R137). -/

namespace Sys2Proof.Machine

/-- BCC (R125): branch if C is clear. -/
def handleBcc : Handler := branch fun p => !p.c

/-- BCS (R126): branch if C is set. -/
def handleBcs : Handler := branch fun p => p.c

/-- BEQ (R127): branch if Z is set. -/
def handleBeq : Handler := branch fun p => p.z

/-- BNE (R128): branch if Z is clear. -/
def handleBne : Handler := branch fun p => !p.z

/-- BMI (R129): branch if N is set. -/
def handleBmi : Handler := branch fun p => p.n

/-- BPL (R130): branch if N is clear. -/
def handleBpl : Handler := branch fun p => !p.n

/-- BVC (R131): branch if V is clear. -/
def handleBvc : Handler := branch fun p => !p.v

/-- BVS (R132): branch if V is set. -/
def handleBvs : Handler := branch fun p => p.v

/-- JMP (R133): `PC <- addr`. -/
def handleJmp : Handler := fun _ addr s => s.setPc addr

/-- JSR (R134): push the return address minus one, then jump. -/
def handleJsr : Handler := fun _ addr s => (push16 (s.pc - 1) s).setPc addr

/-- RTS (R135): the popped address plus one. -/
def handleRts : Handler := fun _ _ s =>
  let r := pop16 s
  r.2.setPc (r.1 + 1)

/-- BRK (R136): PC + 1 pushed, B pushed as 1, through the vector 0xFFFE, whatever I holds (D43). -/
def handleBrk : Handler := fun _ _ s =>
  takeException (s.pc + 1) (s.p.toByte ||| 0x10) Interrupt.irq.vector s

/-- RTI (R137). -/
def handleRti : Handler := fun _ _ s => returnFromException s

/-- 0x00 BRK, mode imp (R136). -/
def execBrk (s : State) : Result := documented 0x00 .imp handleBrk s

/-- 0x10 BPL, mode rel (R130). -/
def execBpl (b : Byte) (s : State) : Result := documented 0x10 (.rel b) handleBpl s

/-- 0x20 JSR, mode abs (R134). -/
def execJsr (w : Word) (s : State) : Result := documented 0x20 (.abs w) handleJsr s

/-- 0x30 BMI, mode rel (R129). -/
def execBmi (b : Byte) (s : State) : Result := documented 0x30 (.rel b) handleBmi s

/-- 0x40 RTI, mode imp (R137). -/
def execRti (s : State) : Result := documented 0x40 .imp handleRti s

/-- 0x4C JMP, mode abs (R133). -/
def execJmpAbs (w : Word) (s : State) : Result := documented 0x4C (.abs w) handleJmp s

/-- 0x50 BVC, mode rel (R131). -/
def execBvc (b : Byte) (s : State) : Result := documented 0x50 (.rel b) handleBvc s

/-- 0x60 RTS, mode imp (R135). -/
def execRts (s : State) : Result := documented 0x60 .imp handleRts s

/-- 0x6C JMP, mode ind (R133). -/
def execJmpInd (w : Word) (s : State) : Result := documented 0x6C (.ind w) handleJmp s

/-- 0x70 BVS, mode rel (R132). -/
def execBvs (b : Byte) (s : State) : Result := documented 0x70 (.rel b) handleBvs s

/-- 0x90 BCC, mode rel (R125). -/
def execBcc (b : Byte) (s : State) : Result := documented 0x90 (.rel b) handleBcc s

/-- 0xB0 BCS, mode rel (R126). -/
def execBcs (b : Byte) (s : State) : Result := documented 0xB0 (.rel b) handleBcs s

/-- 0xD0 BNE, mode rel (R128). -/
def execBne (b : Byte) (s : State) : Result := documented 0xD0 (.rel b) handleBne s

/-- 0xF0 BEQ, mode rel (R127). -/
def execBeq (b : Byte) (s : State) : Result := documented 0xF0 (.rel b) handleBeq s

end Sys2Proof.Machine
end

