-- ==== Sys2Proof/Machine/FlagOps.lean ====
section
/-! DEFINITION. Flag instructions (R139 to R145) and the documented NOP (R146). -/

namespace Sys2Proof.Machine

/-- CLC (R139). -/
def handleClc : Handler := setFlags fun p => { p with c := false }

/-- SEC (R140). -/
def handleSec : Handler := setFlags fun p => { p with c := true }

/-- CLI (R141); the next step sees the new I (D44). -/
def handleCli : Handler := setFlags fun p => { p with i := false }

/-- SEI (R142). -/
def handleSei : Handler := setFlags fun p => { p with i := true }

/-- CLD (R143). -/
def handleCld : Handler := setFlags fun p => { p with d := false }

/-- SED (R144). -/
def handleSed : Handler := setFlags fun p => { p with d := true }

/-- CLV (R145). -/
def handleClv : Handler := setFlags fun p => { p with v := false }

/-- NOP (R146): the advance of PC and 2 cycles are its whole effect. -/
def handleNop : Handler := fun _ _ s => s

/-- 0x18 CLC, mode imp (R139). -/
def execClc (s : State) : Result := documented 0x18 .imp handleClc s

/-- 0x38 SEC, mode imp (R140). -/
def execSec (s : State) : Result := documented 0x38 .imp handleSec s

/-- 0x58 CLI, mode imp (R141). -/
def execCli (s : State) : Result := documented 0x58 .imp handleCli s

/-- 0x78 SEI, mode imp (R142). -/
def execSei (s : State) : Result := documented 0x78 .imp handleSei s

/-- 0xB8 CLV, mode imp (R145). -/
def execClv (s : State) : Result := documented 0xB8 .imp handleClv s

/-- 0xD8 CLD, mode imp (R143). -/
def execCld (s : State) : Result := documented 0xD8 .imp handleCld s

/-- 0xEA NOP, mode imp (R146). -/
def execNop (s : State) : Result := documented 0xEA .imp handleNop s

/-- 0xF8 SED, mode imp (R144). -/
def execSed (s : State) : Result := documented 0xF8 .imp handleSed s

end Sys2Proof.Machine
end

