-- ==== Sys2Proof/Machine/Illegal.lean ====
section
/-! DEFINITION. The 105 illegal opcodes (R147): each runs its row's fetch, pointer reads, PC advance and cycles, then the
policy; none makes a data access. -/

namespace Sys2Proof.Machine

/-- 0x02 KIL, mode imp (R147). -/
def execKil_02 (s : State) : Result := illegal 0x02 .imp s

/-- 0x03 SLO, mode izx (R147). -/
def execSloIzx_03 (b : Byte) (s : State) : Result := illegal 0x03 (.izx b) s

/-- 0x04 NOP, mode zp (R147). -/
def execNopZp_04 (b : Byte) (s : State) : Result := illegal 0x04 (.zp b) s

/-- 0x07 SLO, mode zp (R147). -/
def execSloZp_07 (b : Byte) (s : State) : Result := illegal 0x07 (.zp b) s

/-- 0x0B ANC, mode imm (R147). -/
def execAncImm_0B (b : Byte) (s : State) : Result := illegal 0x0B (.imm b) s

/-- 0x0C NOP, mode abs (R147). -/
def execNopAbs_0C (w : Word) (s : State) : Result := illegal 0x0C (.abs w) s

/-- 0x0F SLO, mode abs (R147). -/
def execSloAbs_0F (w : Word) (s : State) : Result := illegal 0x0F (.abs w) s

/-- 0x12 KIL, mode imp (R147). -/
def execKil_12 (s : State) : Result := illegal 0x12 .imp s

/-- 0x13 SLO, mode izy (R147). -/
def execSloIzy_13 (b : Byte) (s : State) : Result := illegal 0x13 (.izy b) s

/-- 0x14 NOP, mode zpx (R147). -/
def execNopZpx_14 (b : Byte) (s : State) : Result := illegal 0x14 (.zpx b) s

/-- 0x17 SLO, mode zpx (R147). -/
def execSloZpx_17 (b : Byte) (s : State) : Result := illegal 0x17 (.zpx b) s

/-- 0x1A NOP, mode imp (R147). -/
def execNop_1A (s : State) : Result := illegal 0x1A .imp s

/-- 0x1B SLO, mode absy (R147). -/
def execSloAbsy_1B (w : Word) (s : State) : Result := illegal 0x1B (.absy w) s

/-- 0x1C NOP, mode absx (R147). -/
def execNopAbsx_1C (w : Word) (s : State) : Result := illegal 0x1C (.absx w) s

/-- 0x1F SLO, mode absx (R147). -/
def execSloAbsx_1F (w : Word) (s : State) : Result := illegal 0x1F (.absx w) s

/-- 0x22 KIL, mode imp (R147). -/
def execKil_22 (s : State) : Result := illegal 0x22 .imp s

/-- 0x23 RLA, mode izx (R147). -/
def execRlaIzx_23 (b : Byte) (s : State) : Result := illegal 0x23 (.izx b) s

/-- 0x27 RLA, mode zp (R147). -/
def execRlaZp_27 (b : Byte) (s : State) : Result := illegal 0x27 (.zp b) s

/-- 0x2B ANC, mode imm (R147). -/
def execAncImm_2B (b : Byte) (s : State) : Result := illegal 0x2B (.imm b) s

/-- 0x2F RLA, mode abs (R147). -/
def execRlaAbs_2F (w : Word) (s : State) : Result := illegal 0x2F (.abs w) s

/-- 0x32 KIL, mode imp (R147). -/
def execKil_32 (s : State) : Result := illegal 0x32 .imp s

/-- 0x33 RLA, mode izy (R147). -/
def execRlaIzy_33 (b : Byte) (s : State) : Result := illegal 0x33 (.izy b) s

/-- 0x34 NOP, mode zpx (R147). -/
def execNopZpx_34 (b : Byte) (s : State) : Result := illegal 0x34 (.zpx b) s

/-- 0x37 RLA, mode zpx (R147). -/
def execRlaZpx_37 (b : Byte) (s : State) : Result := illegal 0x37 (.zpx b) s

/-- 0x3A NOP, mode imp (R147). -/
def execNop_3A (s : State) : Result := illegal 0x3A .imp s

/-- 0x3B RLA, mode absy (R147). -/
def execRlaAbsy_3B (w : Word) (s : State) : Result := illegal 0x3B (.absy w) s

/-- 0x3C NOP, mode absx (R147). -/
def execNopAbsx_3C (w : Word) (s : State) : Result := illegal 0x3C (.absx w) s

/-- 0x3F RLA, mode absx (R147). -/
def execRlaAbsx_3F (w : Word) (s : State) : Result := illegal 0x3F (.absx w) s

/-- 0x42 KIL, mode imp (R147). -/
def execKil_42 (s : State) : Result := illegal 0x42 .imp s

/-- 0x43 SRE, mode izx (R147). -/
def execSreIzx_43 (b : Byte) (s : State) : Result := illegal 0x43 (.izx b) s

/-- 0x44 NOP, mode zp (R147). -/
def execNopZp_44 (b : Byte) (s : State) : Result := illegal 0x44 (.zp b) s

/-- 0x47 SRE, mode zp (R147). -/
def execSreZp_47 (b : Byte) (s : State) : Result := illegal 0x47 (.zp b) s

/-- 0x4B ALR, mode imm (R147). -/
def execAlrImm_4B (b : Byte) (s : State) : Result := illegal 0x4B (.imm b) s

/-- 0x4F SRE, mode abs (R147). -/
def execSreAbs_4F (w : Word) (s : State) : Result := illegal 0x4F (.abs w) s

/-- 0x52 KIL, mode imp (R147). -/
def execKil_52 (s : State) : Result := illegal 0x52 .imp s

/-- 0x53 SRE, mode izy (R147). -/
def execSreIzy_53 (b : Byte) (s : State) : Result := illegal 0x53 (.izy b) s

/-- 0x54 NOP, mode zpx (R147). -/
def execNopZpx_54 (b : Byte) (s : State) : Result := illegal 0x54 (.zpx b) s

/-- 0x57 SRE, mode zpx (R147). -/
def execSreZpx_57 (b : Byte) (s : State) : Result := illegal 0x57 (.zpx b) s

/-- 0x5A NOP, mode imp (R147). -/
def execNop_5A (s : State) : Result := illegal 0x5A .imp s

/-- 0x5B SRE, mode absy (R147). -/
def execSreAbsy_5B (w : Word) (s : State) : Result := illegal 0x5B (.absy w) s

/-- 0x5C NOP, mode absx (R147). -/
def execNopAbsx_5C (w : Word) (s : State) : Result := illegal 0x5C (.absx w) s

/-- 0x5F SRE, mode absx (R147). -/
def execSreAbsx_5F (w : Word) (s : State) : Result := illegal 0x5F (.absx w) s

/-- 0x62 KIL, mode imp (R147). -/
def execKil_62 (s : State) : Result := illegal 0x62 .imp s

/-- 0x63 RRA, mode izx (R147). -/
def execRraIzx_63 (b : Byte) (s : State) : Result := illegal 0x63 (.izx b) s

/-- 0x64 NOP, mode zp (R147). -/
def execNopZp_64 (b : Byte) (s : State) : Result := illegal 0x64 (.zp b) s

/-- 0x67 RRA, mode zp (R147). -/
def execRraZp_67 (b : Byte) (s : State) : Result := illegal 0x67 (.zp b) s

/-- 0x6B ARR, mode imm (R147). -/
def execArrImm_6B (b : Byte) (s : State) : Result := illegal 0x6B (.imm b) s

/-- 0x6F RRA, mode abs (R147). -/
def execRraAbs_6F (w : Word) (s : State) : Result := illegal 0x6F (.abs w) s

/-- 0x72 KIL, mode imp (R147). -/
def execKil_72 (s : State) : Result := illegal 0x72 .imp s

/-- 0x73 RRA, mode izy (R147). -/
def execRraIzy_73 (b : Byte) (s : State) : Result := illegal 0x73 (.izy b) s

/-- 0x74 NOP, mode zpx (R147). -/
def execNopZpx_74 (b : Byte) (s : State) : Result := illegal 0x74 (.zpx b) s

/-- 0x77 RRA, mode zpx (R147). -/
def execRraZpx_77 (b : Byte) (s : State) : Result := illegal 0x77 (.zpx b) s

/-- 0x7A NOP, mode imp (R147). -/
def execNop_7A (s : State) : Result := illegal 0x7A .imp s

/-- 0x7B RRA, mode absy (R147). -/
def execRraAbsy_7B (w : Word) (s : State) : Result := illegal 0x7B (.absy w) s

/-- 0x7C NOP, mode absx (R147). -/
def execNopAbsx_7C (w : Word) (s : State) : Result := illegal 0x7C (.absx w) s

/-- 0x7F RRA, mode absx (R147). -/
def execRraAbsx_7F (w : Word) (s : State) : Result := illegal 0x7F (.absx w) s

/-- 0x80 NOP, mode imm (R147). -/
def execNopImm_80 (b : Byte) (s : State) : Result := illegal 0x80 (.imm b) s

/-- 0x82 NOP, mode imm (R147). -/
def execNopImm_82 (b : Byte) (s : State) : Result := illegal 0x82 (.imm b) s

/-- 0x83 SAX, mode izx (R147). -/
def execSaxIzx_83 (b : Byte) (s : State) : Result := illegal 0x83 (.izx b) s

/-- 0x87 SAX, mode zp (R147). -/
def execSaxZp_87 (b : Byte) (s : State) : Result := illegal 0x87 (.zp b) s

/-- 0x89 NOP, mode imm (R147). -/
def execNopImm_89 (b : Byte) (s : State) : Result := illegal 0x89 (.imm b) s

/-- 0x8B XAA, mode imm (R147). -/
def execXaaImm_8B (b : Byte) (s : State) : Result := illegal 0x8B (.imm b) s

/-- 0x8F SAX, mode abs (R147). -/
def execSaxAbs_8F (w : Word) (s : State) : Result := illegal 0x8F (.abs w) s

/-- 0x92 KIL, mode imp (R147). -/
def execKil_92 (s : State) : Result := illegal 0x92 .imp s

/-- 0x93 AHX, mode izy (R147). -/
def execAhxIzy_93 (b : Byte) (s : State) : Result := illegal 0x93 (.izy b) s

/-- 0x97 SAX, mode zpy (R147). -/
def execSaxZpy_97 (b : Byte) (s : State) : Result := illegal 0x97 (.zpy b) s

/-- 0x9B TAS, mode absy (R147). -/
def execTasAbsy_9B (w : Word) (s : State) : Result := illegal 0x9B (.absy w) s

/-- 0x9C SHY, mode absx (R147). -/
def execShyAbsx_9C (w : Word) (s : State) : Result := illegal 0x9C (.absx w) s

/-- 0x9E SHX, mode absy (R147). -/
def execShxAbsy_9E (w : Word) (s : State) : Result := illegal 0x9E (.absy w) s

/-- 0x9F AHX, mode absy (R147). -/
def execAhxAbsy_9F (w : Word) (s : State) : Result := illegal 0x9F (.absy w) s

/-- 0xA3 LAX, mode izx (R147). -/
def execLaxIzx_A3 (b : Byte) (s : State) : Result := illegal 0xA3 (.izx b) s

/-- 0xA7 LAX, mode zp (R147). -/
def execLaxZp_A7 (b : Byte) (s : State) : Result := illegal 0xA7 (.zp b) s

/-- 0xAB LAX, mode imm (R147). -/
def execLaxImm_AB (b : Byte) (s : State) : Result := illegal 0xAB (.imm b) s

/-- 0xAF LAX, mode abs (R147). -/
def execLaxAbs_AF (w : Word) (s : State) : Result := illegal 0xAF (.abs w) s

/-- 0xB2 KIL, mode imp (R147). -/
def execKil_B2 (s : State) : Result := illegal 0xB2 .imp s

/-- 0xB3 LAX, mode izy (R147). -/
def execLaxIzy_B3 (b : Byte) (s : State) : Result := illegal 0xB3 (.izy b) s

/-- 0xB7 LAX, mode zpy (R147). -/
def execLaxZpy_B7 (b : Byte) (s : State) : Result := illegal 0xB7 (.zpy b) s

/-- 0xBB LAS, mode absy (R147). -/
def execLasAbsy_BB (w : Word) (s : State) : Result := illegal 0xBB (.absy w) s

/-- 0xBF LAX, mode absy (R147). -/
def execLaxAbsy_BF (w : Word) (s : State) : Result := illegal 0xBF (.absy w) s

/-- 0xC2 NOP, mode imm (R147). -/
def execNopImm_C2 (b : Byte) (s : State) : Result := illegal 0xC2 (.imm b) s

/-- 0xC3 DCP, mode izx (R147). -/
def execDcpIzx_C3 (b : Byte) (s : State) : Result := illegal 0xC3 (.izx b) s

/-- 0xC7 DCP, mode zp (R147). -/
def execDcpZp_C7 (b : Byte) (s : State) : Result := illegal 0xC7 (.zp b) s

/-- 0xCB AXS, mode imm (R147). -/
def execAxsImm_CB (b : Byte) (s : State) : Result := illegal 0xCB (.imm b) s

/-- 0xCF DCP, mode abs (R147). -/
def execDcpAbs_CF (w : Word) (s : State) : Result := illegal 0xCF (.abs w) s

/-- 0xD2 KIL, mode imp (R147). -/
def execKil_D2 (s : State) : Result := illegal 0xD2 .imp s

/-- 0xD3 DCP, mode izy (R147). -/
def execDcpIzy_D3 (b : Byte) (s : State) : Result := illegal 0xD3 (.izy b) s

/-- 0xD4 NOP, mode zpx (R147). -/
def execNopZpx_D4 (b : Byte) (s : State) : Result := illegal 0xD4 (.zpx b) s

/-- 0xD7 DCP, mode zpx (R147). -/
def execDcpZpx_D7 (b : Byte) (s : State) : Result := illegal 0xD7 (.zpx b) s

/-- 0xDA NOP, mode imp (R147). -/
def execNop_DA (s : State) : Result := illegal 0xDA .imp s

/-- 0xDB DCP, mode absy (R147). -/
def execDcpAbsy_DB (w : Word) (s : State) : Result := illegal 0xDB (.absy w) s

/-- 0xDC NOP, mode absx (R147). -/
def execNopAbsx_DC (w : Word) (s : State) : Result := illegal 0xDC (.absx w) s

/-- 0xDF DCP, mode absx (R147). -/
def execDcpAbsx_DF (w : Word) (s : State) : Result := illegal 0xDF (.absx w) s

/-- 0xE2 NOP, mode imm (R147). -/
def execNopImm_E2 (b : Byte) (s : State) : Result := illegal 0xE2 (.imm b) s

/-- 0xE3 ISC, mode izx (R147). -/
def execIscIzx_E3 (b : Byte) (s : State) : Result := illegal 0xE3 (.izx b) s

/-- 0xE7 ISC, mode zp (R147). -/
def execIscZp_E7 (b : Byte) (s : State) : Result := illegal 0xE7 (.zp b) s

/-- 0xEB SBC, mode imm (R147). -/
def execSbcImm_EB (b : Byte) (s : State) : Result := illegal 0xEB (.imm b) s

/-- 0xEF ISC, mode abs (R147). -/
def execIscAbs_EF (w : Word) (s : State) : Result := illegal 0xEF (.abs w) s

/-- 0xF2 KIL, mode imp (R147). -/
def execKil_F2 (s : State) : Result := illegal 0xF2 .imp s

/-- 0xF3 ISC, mode izy (R147). -/
def execIscIzy_F3 (b : Byte) (s : State) : Result := illegal 0xF3 (.izy b) s

/-- 0xF4 NOP, mode zpx (R147). -/
def execNopZpx_F4 (b : Byte) (s : State) : Result := illegal 0xF4 (.zpx b) s

/-- 0xF7 ISC, mode zpx (R147). -/
def execIscZpx_F7 (b : Byte) (s : State) : Result := illegal 0xF7 (.zpx b) s

/-- 0xFA NOP, mode imp (R147). -/
def execNop_FA (s : State) : Result := illegal 0xFA .imp s

/-- 0xFB ISC, mode absy (R147). -/
def execIscAbsy_FB (w : Word) (s : State) : Result := illegal 0xFB (.absy w) s

/-- 0xFC NOP, mode absx (R147). -/
def execNopAbsx_FC (w : Word) (s : State) : Result := illegal 0xFC (.absx w) s

/-- 0xFF ISC, mode absx (R147). -/
def execIscAbsx_FF (w : Word) (s : State) : Result := illegal 0xFF (.absx w) s

end Sys2Proof.Machine
end

