-- ==== Sys2Proof/Machine/Loads.lean ====
section
/-! DEFINITION. Loads (R88 to R90): LDA, LDX, LDY. -/

namespace Sys2Proof.Machine

/-- LDA (R88): `A <- MemRead(addr); SetZN(A)`. -/
def handleLda : Handler := loadInto State.setA

/-- LDX (R89): `X <- MemRead(addr); SetZN(X)`. -/
def handleLdx : Handler := loadInto State.setX

/-- LDY (R90): `Y <- MemRead(addr); SetZN(Y)`. -/
def handleLdy : Handler := loadInto State.setY

/-- 0xA0 LDY, mode imm (R90). -/
def execLdyImm (b : Byte) (s : State) : Result := documented 0xA0 (.imm b) handleLdy s

/-- 0xA1 LDA, mode izx (R88). -/
def execLdaIzx (b : Byte) (s : State) : Result := documented 0xA1 (.izx b) handleLda s

/-- 0xA2 LDX, mode imm (R89). -/
def execLdxImm (b : Byte) (s : State) : Result := documented 0xA2 (.imm b) handleLdx s

/-- 0xA4 LDY, mode zp (R90). -/
def execLdyZp (b : Byte) (s : State) : Result := documented 0xA4 (.zp b) handleLdy s

/-- 0xA5 LDA, mode zp (R88). -/
def execLdaZp (b : Byte) (s : State) : Result := documented 0xA5 (.zp b) handleLda s

/-- 0xA6 LDX, mode zp (R89). -/
def execLdxZp (b : Byte) (s : State) : Result := documented 0xA6 (.zp b) handleLdx s

/-- 0xA9 LDA, mode imm (R88). -/
def execLdaImm (b : Byte) (s : State) : Result := documented 0xA9 (.imm b) handleLda s

/-- 0xAC LDY, mode abs (R90). -/
def execLdyAbs (w : Word) (s : State) : Result := documented 0xAC (.abs w) handleLdy s

/-- 0xAD LDA, mode abs (R88). -/
def execLdaAbs (w : Word) (s : State) : Result := documented 0xAD (.abs w) handleLda s

/-- 0xAE LDX, mode abs (R89). -/
def execLdxAbs (w : Word) (s : State) : Result := documented 0xAE (.abs w) handleLdx s

/-- 0xB1 LDA, mode izy (R88). -/
def execLdaIzy (b : Byte) (s : State) : Result := documented 0xB1 (.izy b) handleLda s

/-- 0xB4 LDY, mode zpx (R90). -/
def execLdyZpx (b : Byte) (s : State) : Result := documented 0xB4 (.zpx b) handleLdy s

/-- 0xB5 LDA, mode zpx (R88). -/
def execLdaZpx (b : Byte) (s : State) : Result := documented 0xB5 (.zpx b) handleLda s

/-- 0xB6 LDX, mode zpy (R89). -/
def execLdxZpy (b : Byte) (s : State) : Result := documented 0xB6 (.zpy b) handleLdx s

/-- 0xB9 LDA, mode absy (R88). -/
def execLdaAbsy (w : Word) (s : State) : Result := documented 0xB9 (.absy w) handleLda s

/-- 0xBC LDY, mode absx (R90). -/
def execLdyAbsx (w : Word) (s : State) : Result := documented 0xBC (.absx w) handleLdy s

/-- 0xBD LDA, mode absx (R88). -/
def execLdaAbsx (w : Word) (s : State) : Result := documented 0xBD (.absx w) handleLda s

/-- 0xBE LDX, mode absy (R89). -/
def execLdxAbsy (w : Word) (s : State) : Result := documented 0xBE (.absy w) handleLdx s

end Sys2Proof.Machine
end

