-- ==== Sys2Proof/Machine/Logic.lean ====
section
/-! DEFINITION. Logic (R107 to R110): AND, ORA, EOR, BIT. -/

namespace Sys2Proof.Machine

/-- AND (R107). -/
def handleAnd : Handler := accumulate fun a m p => plainResult (a &&& m) p

/-- ORA (R108). -/
def handleOra : Handler := accumulate fun a m p => plainResult (a ||| m) p

/-- EOR (R109). -/
def handleEor : Handler := accumulate fun a m p => plainResult (a ^^^ m) p

/-- BIT (R110): flags only; `A` is not written. -/
def handleBit : Handler := fun o addr s =>
  let m := loadOperand o addr s
  m.2.setP (bitFlags m.2.a m.1 m.2.p)

/-- 0x01 ORA, mode izx (R108). -/
def execOraIzx (b : Byte) (s : State) : Result := documented 0x01 (.izx b) handleOra s

/-- 0x05 ORA, mode zp (R108). -/
def execOraZp (b : Byte) (s : State) : Result := documented 0x05 (.zp b) handleOra s

/-- 0x09 ORA, mode imm (R108). -/
def execOraImm (b : Byte) (s : State) : Result := documented 0x09 (.imm b) handleOra s

/-- 0x0D ORA, mode abs (R108). -/
def execOraAbs (w : Word) (s : State) : Result := documented 0x0D (.abs w) handleOra s

/-- 0x11 ORA, mode izy (R108). -/
def execOraIzy (b : Byte) (s : State) : Result := documented 0x11 (.izy b) handleOra s

/-- 0x15 ORA, mode zpx (R108). -/
def execOraZpx (b : Byte) (s : State) : Result := documented 0x15 (.zpx b) handleOra s

/-- 0x19 ORA, mode absy (R108). -/
def execOraAbsy (w : Word) (s : State) : Result := documented 0x19 (.absy w) handleOra s

/-- 0x1D ORA, mode absx (R108). -/
def execOraAbsx (w : Word) (s : State) : Result := documented 0x1D (.absx w) handleOra s

/-- 0x21 AND, mode izx (R107). -/
def execAndIzx (b : Byte) (s : State) : Result := documented 0x21 (.izx b) handleAnd s

/-- 0x24 BIT, mode zp (R110). -/
def execBitZp (b : Byte) (s : State) : Result := documented 0x24 (.zp b) handleBit s

/-- 0x25 AND, mode zp (R107). -/
def execAndZp (b : Byte) (s : State) : Result := documented 0x25 (.zp b) handleAnd s

/-- 0x29 AND, mode imm (R107). -/
def execAndImm (b : Byte) (s : State) : Result := documented 0x29 (.imm b) handleAnd s

/-- 0x2C BIT, mode abs (R110). -/
def execBitAbs (w : Word) (s : State) : Result := documented 0x2C (.abs w) handleBit s

/-- 0x2D AND, mode abs (R107). -/
def execAndAbs (w : Word) (s : State) : Result := documented 0x2D (.abs w) handleAnd s

/-- 0x31 AND, mode izy (R107). -/
def execAndIzy (b : Byte) (s : State) : Result := documented 0x31 (.izy b) handleAnd s

/-- 0x35 AND, mode zpx (R107). -/
def execAndZpx (b : Byte) (s : State) : Result := documented 0x35 (.zpx b) handleAnd s

/-- 0x39 AND, mode absy (R107). -/
def execAndAbsy (w : Word) (s : State) : Result := documented 0x39 (.absy w) handleAnd s

/-- 0x3D AND, mode absx (R107). -/
def execAndAbsx (w : Word) (s : State) : Result := documented 0x3D (.absx w) handleAnd s

/-- 0x41 EOR, mode izx (R109). -/
def execEorIzx (b : Byte) (s : State) : Result := documented 0x41 (.izx b) handleEor s

/-- 0x45 EOR, mode zp (R109). -/
def execEorZp (b : Byte) (s : State) : Result := documented 0x45 (.zp b) handleEor s

/-- 0x49 EOR, mode imm (R109). -/
def execEorImm (b : Byte) (s : State) : Result := documented 0x49 (.imm b) handleEor s

/-- 0x4D EOR, mode abs (R109). -/
def execEorAbs (w : Word) (s : State) : Result := documented 0x4D (.abs w) handleEor s

/-- 0x51 EOR, mode izy (R109). -/
def execEorIzy (b : Byte) (s : State) : Result := documented 0x51 (.izy b) handleEor s

/-- 0x55 EOR, mode zpx (R109). -/
def execEorZpx (b : Byte) (s : State) : Result := documented 0x55 (.zpx b) handleEor s

/-- 0x59 EOR, mode absy (R109). -/
def execEorAbsy (w : Word) (s : State) : Result := documented 0x59 (.absy w) handleEor s

/-- 0x5D EOR, mode absx (R109). -/
def execEorAbsx (w : Word) (s : State) : Result := documented 0x5D (.absx w) handleEor s

end Sys2Proof.Machine
end

