-- ==== Sys2Proof/Machine/Shifts.lean ====
section
/-! DEFINITION. Shifts and rotates (R120 to R123), on the accumulator or on memory. -/

namespace Sys2Proof.Machine

/-- ASL (R120). -/
def handleAsl : Handler := modify aslResult

/-- LSR (R121). -/
def handleLsr : Handler := modify lsrResult

/-- ROL (R122). -/
def handleRol : Handler := modify rolResult

/-- ROR (R123). -/
def handleRor : Handler := modify rorResult

/-- 0x06 ASL, mode zp (R120). -/
def execAslZp (b : Byte) (s : State) : Result := documented 0x06 (.zp b) handleAsl s

/-- 0x0A ASL, mode acc (R120). -/
def execAslAcc (s : State) : Result := documented 0x0A .acc handleAsl s

/-- 0x0E ASL, mode abs (R120). -/
def execAslAbs (w : Word) (s : State) : Result := documented 0x0E (.abs w) handleAsl s

/-- 0x16 ASL, mode zpx (R120). -/
def execAslZpx (b : Byte) (s : State) : Result := documented 0x16 (.zpx b) handleAsl s

/-- 0x1E ASL, mode absx (R120). -/
def execAslAbsx (w : Word) (s : State) : Result := documented 0x1E (.absx w) handleAsl s

/-- 0x26 ROL, mode zp (R122). -/
def execRolZp (b : Byte) (s : State) : Result := documented 0x26 (.zp b) handleRol s

/-- 0x2A ROL, mode acc (R122). -/
def execRolAcc (s : State) : Result := documented 0x2A .acc handleRol s

/-- 0x2E ROL, mode abs (R122). -/
def execRolAbs (w : Word) (s : State) : Result := documented 0x2E (.abs w) handleRol s

/-- 0x36 ROL, mode zpx (R122). -/
def execRolZpx (b : Byte) (s : State) : Result := documented 0x36 (.zpx b) handleRol s

/-- 0x3E ROL, mode absx (R122). -/
def execRolAbsx (w : Word) (s : State) : Result := documented 0x3E (.absx w) handleRol s

/-- 0x46 LSR, mode zp (R121). -/
def execLsrZp (b : Byte) (s : State) : Result := documented 0x46 (.zp b) handleLsr s

/-- 0x4A LSR, mode acc (R121). -/
def execLsrAcc (s : State) : Result := documented 0x4A .acc handleLsr s

/-- 0x4E LSR, mode abs (R121). -/
def execLsrAbs (w : Word) (s : State) : Result := documented 0x4E (.abs w) handleLsr s

/-- 0x56 LSR, mode zpx (R121). -/
def execLsrZpx (b : Byte) (s : State) : Result := documented 0x56 (.zpx b) handleLsr s

/-- 0x5E LSR, mode absx (R121). -/
def execLsrAbsx (w : Word) (s : State) : Result := documented 0x5E (.absx w) handleLsr s

/-- 0x66 ROR, mode zp (R123). -/
def execRorZp (b : Byte) (s : State) : Result := documented 0x66 (.zp b) handleRor s

/-- 0x6A ROR, mode acc (R123). -/
def execRorAcc (s : State) : Result := documented 0x6A .acc handleRor s

/-- 0x6E ROR, mode abs (R123). -/
def execRorAbs (w : Word) (s : State) : Result := documented 0x6E (.abs w) handleRor s

/-- 0x76 ROR, mode zpx (R123). -/
def execRorZpx (b : Byte) (s : State) : Result := documented 0x76 (.zpx b) handleRor s

/-- 0x7E ROR, mode absx (R123). -/
def execRorAbsx (w : Word) (s : State) : Result := documented 0x7E (.absx w) handleRor s

end Sys2Proof.Machine
end

