-- ==== Sys2Proof/Machine/StackOps.lean ====
section
/-! DEFINITION. Stack instructions (R100 to R103): PHA, PLA, PHP, PLP. -/

namespace Sys2Proof.Machine

/-- PHA (R100): `Push(A)`. -/
def handlePha : Handler := fun _ _ s => push s.a s

/-- PLA (R101): `A <- Pop(); SetZN(A)`. -/
def handlePla : Handler := fun _ _ s =>
  let r := pop s
  (r.2.setA r.1).setP (r.2.p.setZN r.1)

/-- PHP (R102): the pushed byte has bits 4 and 5 forced to 1; the stored flags stay. -/
def handlePhp : Handler := fun _ _ s => push (s.p.toByte ||| 0x30) s

/-- PLP (R103): all eight flags from the popped byte (D11). -/
def handlePlp : Handler := fun _ _ s =>
  let r := pop s
  r.2.setP (Flags.fromByte r.1)

/-- 0x08 PHP, mode imp (R102). -/
def execPhp (s : State) : Result := documented 0x08 .imp handlePhp s

/-- 0x28 PLP, mode imp (R103). -/
def execPlp (s : State) : Result := documented 0x28 .imp handlePlp s

/-- 0x48 PHA, mode imp (R100). -/
def execPha (s : State) : Result := documented 0x48 .imp handlePha s

/-- 0x68 PLA, mode imp (R101). -/
def execPla (s : State) : Result := documented 0x68 .imp handlePla s

end Sys2Proof.Machine
end

