-- ==== Sys2Proof/Machine/Stores.lean ====
section
/-! DEFINITION. Stores (R91 to R93): STA, STX, STY. No flag is written. -/

namespace Sys2Proof.Machine

/-- STA (R91): `MemWrite(addr, A)`. -/
def handleSta : Handler := storeFrom State.a

/-- STX (R92): `MemWrite(addr, X)`. -/
def handleStx : Handler := storeFrom State.x

/-- STY (R93): `MemWrite(addr, Y)`. -/
def handleSty : Handler := storeFrom State.y

/-- 0x81 STA, mode izx (R91). -/
def execStaIzx (b : Byte) (s : State) : Result := documented 0x81 (.izx b) handleSta s

/-- 0x84 STY, mode zp (R93). -/
def execStyZp (b : Byte) (s : State) : Result := documented 0x84 (.zp b) handleSty s

/-- 0x85 STA, mode zp (R91). -/
def execStaZp (b : Byte) (s : State) : Result := documented 0x85 (.zp b) handleSta s

/-- 0x86 STX, mode zp (R92). -/
def execStxZp (b : Byte) (s : State) : Result := documented 0x86 (.zp b) handleStx s

/-- 0x8C STY, mode abs (R93). -/
def execStyAbs (w : Word) (s : State) : Result := documented 0x8C (.abs w) handleSty s

/-- 0x8D STA, mode abs (R91). -/
def execStaAbs (w : Word) (s : State) : Result := documented 0x8D (.abs w) handleSta s

/-- 0x8E STX, mode abs (R92). -/
def execStxAbs (w : Word) (s : State) : Result := documented 0x8E (.abs w) handleStx s

/-- 0x91 STA, mode izy (R91). -/
def execStaIzy (b : Byte) (s : State) : Result := documented 0x91 (.izy b) handleSta s

/-- 0x94 STY, mode zpx (R93). -/
def execStyZpx (b : Byte) (s : State) : Result := documented 0x94 (.zpx b) handleSty s

/-- 0x95 STA, mode zpx (R91). -/
def execStaZpx (b : Byte) (s : State) : Result := documented 0x95 (.zpx b) handleSta s

/-- 0x96 STX, mode zpy (R92). -/
def execStxZpy (b : Byte) (s : State) : Result := documented 0x96 (.zpy b) handleStx s

/-- 0x99 STA, mode absy (R91). -/
def execStaAbsy (w : Word) (s : State) : Result := documented 0x99 (.absy w) handleSta s

/-- 0x9D STA, mode absx (R91). -/
def execStaAbsx (w : Word) (s : State) : Result := documented 0x9D (.absx w) handleSta s

end Sys2Proof.Machine
end

