-- ==== Sys2Proof/Machine/Transfers.lean ====
section
/-! DEFINITION. Register transfers (R94 to R99): TAX, TAY, TXA, TYA, TSX, TXS. -/

namespace Sys2Proof.Machine

/-- TAX (R94). -/
def handleTax : Handler := transfer State.a State.setX

/-- TAY (R95). -/
def handleTay : Handler := transfer State.a State.setY

/-- TXA (R96). -/
def handleTxa : Handler := transfer State.x State.setA

/-- TYA (R97). -/
def handleTya : Handler := transfer State.y State.setA

/-- TSX (R98). -/
def handleTsx : Handler := transfer State.sp State.setX

/-- TXS (R99): the only transfer that writes no flag. -/
def handleTxs : Handler := fun _ _ s => s.setSp s.x

/-- 0x8A TXA, mode imp (R96). -/
def execTxa (s : State) : Result := documented 0x8A .imp handleTxa s

/-- 0x98 TYA, mode imp (R97). -/
def execTya (s : State) : Result := documented 0x98 .imp handleTya s

/-- 0x9A TXS, mode imp (R99). -/
def execTxs (s : State) : Result := documented 0x9A .imp handleTxs s

/-- 0xA8 TAY, mode imp (R95). -/
def execTay (s : State) : Result := documented 0xA8 .imp handleTay s

/-- 0xAA TAX, mode imp (R94). -/
def execTax (s : State) : Result := documented 0xAA .imp handleTax s

/-- 0xBA TSX, mode imp (R98). -/
def execTsx (s : State) : Result := documented 0xBA .imp handleTsx s

end Sys2Proof.Machine
end

