-- ==== Sys2Proof/Machine/Dispatch.lean ====
section
/-! DEFINITION. The dispatch of R86: one arm for each constructor of `Instr`, each one call of that instruction's meaning. -/

namespace Sys2Proof.Machine

def exec (i : Instr) (s : State) : Host.Outcome State Fault Refusal :=
  match i with
  | .brk => Sys2Proof.Machine.execBrk s
  | .oraIzx b => Sys2Proof.Machine.execOraIzx b s
  | .kil_02 => Sys2Proof.Machine.execKil_02 s
  | .sloIzx_03 b => Sys2Proof.Machine.execSloIzx_03 b s
  | .nopZp_04 b => Sys2Proof.Machine.execNopZp_04 b s
  | .oraZp b => Sys2Proof.Machine.execOraZp b s
  | .aslZp b => Sys2Proof.Machine.execAslZp b s
  | .sloZp_07 b => Sys2Proof.Machine.execSloZp_07 b s
  | .php => Sys2Proof.Machine.execPhp s
  | .oraImm b => Sys2Proof.Machine.execOraImm b s
  | .aslAcc => Sys2Proof.Machine.execAslAcc s
  | .ancImm_0B b => Sys2Proof.Machine.execAncImm_0B b s
  | .nopAbs_0C w => Sys2Proof.Machine.execNopAbs_0C w s
  | .oraAbs w => Sys2Proof.Machine.execOraAbs w s
  | .aslAbs w => Sys2Proof.Machine.execAslAbs w s
  | .sloAbs_0F w => Sys2Proof.Machine.execSloAbs_0F w s
  | .bpl b => Sys2Proof.Machine.execBpl b s
  | .oraIzy b => Sys2Proof.Machine.execOraIzy b s
  | .kil_12 => Sys2Proof.Machine.execKil_12 s
  | .sloIzy_13 b => Sys2Proof.Machine.execSloIzy_13 b s
  | .nopZpx_14 b => Sys2Proof.Machine.execNopZpx_14 b s
  | .oraZpx b => Sys2Proof.Machine.execOraZpx b s
  | .aslZpx b => Sys2Proof.Machine.execAslZpx b s
  | .sloZpx_17 b => Sys2Proof.Machine.execSloZpx_17 b s
  | .clc => Sys2Proof.Machine.execClc s
  | .oraAbsy w => Sys2Proof.Machine.execOraAbsy w s
  | .nop_1A => Sys2Proof.Machine.execNop_1A s
  | .sloAbsy_1B w => Sys2Proof.Machine.execSloAbsy_1B w s
  | .nopAbsx_1C w => Sys2Proof.Machine.execNopAbsx_1C w s
  | .oraAbsx w => Sys2Proof.Machine.execOraAbsx w s
  | .aslAbsx w => Sys2Proof.Machine.execAslAbsx w s
  | .sloAbsx_1F w => Sys2Proof.Machine.execSloAbsx_1F w s
  | .jsr w => Sys2Proof.Machine.execJsr w s
  | .andIzx b => Sys2Proof.Machine.execAndIzx b s
  | .kil_22 => Sys2Proof.Machine.execKil_22 s
  | .rlaIzx_23 b => Sys2Proof.Machine.execRlaIzx_23 b s
  | .bitZp b => Sys2Proof.Machine.execBitZp b s
  | .andZp b => Sys2Proof.Machine.execAndZp b s
  | .rolZp b => Sys2Proof.Machine.execRolZp b s
  | .rlaZp_27 b => Sys2Proof.Machine.execRlaZp_27 b s
  | .plp => Sys2Proof.Machine.execPlp s
  | .andImm b => Sys2Proof.Machine.execAndImm b s
  | .rolAcc => Sys2Proof.Machine.execRolAcc s
  | .ancImm_2B b => Sys2Proof.Machine.execAncImm_2B b s
  | .bitAbs w => Sys2Proof.Machine.execBitAbs w s
  | .andAbs w => Sys2Proof.Machine.execAndAbs w s
  | .rolAbs w => Sys2Proof.Machine.execRolAbs w s
  | .rlaAbs_2F w => Sys2Proof.Machine.execRlaAbs_2F w s
  | .bmi b => Sys2Proof.Machine.execBmi b s
  | .andIzy b => Sys2Proof.Machine.execAndIzy b s
  | .kil_32 => Sys2Proof.Machine.execKil_32 s
  | .rlaIzy_33 b => Sys2Proof.Machine.execRlaIzy_33 b s
  | .nopZpx_34 b => Sys2Proof.Machine.execNopZpx_34 b s
  | .andZpx b => Sys2Proof.Machine.execAndZpx b s
  | .rolZpx b => Sys2Proof.Machine.execRolZpx b s
  | .rlaZpx_37 b => Sys2Proof.Machine.execRlaZpx_37 b s
  | .sec => Sys2Proof.Machine.execSec s
  | .andAbsy w => Sys2Proof.Machine.execAndAbsy w s
  | .nop_3A => Sys2Proof.Machine.execNop_3A s
  | .rlaAbsy_3B w => Sys2Proof.Machine.execRlaAbsy_3B w s
  | .nopAbsx_3C w => Sys2Proof.Machine.execNopAbsx_3C w s
  | .andAbsx w => Sys2Proof.Machine.execAndAbsx w s
  | .rolAbsx w => Sys2Proof.Machine.execRolAbsx w s
  | .rlaAbsx_3F w => Sys2Proof.Machine.execRlaAbsx_3F w s
  | .rti => Sys2Proof.Machine.execRti s
  | .eorIzx b => Sys2Proof.Machine.execEorIzx b s
  | .kil_42 => Sys2Proof.Machine.execKil_42 s
  | .sreIzx_43 b => Sys2Proof.Machine.execSreIzx_43 b s
  | .nopZp_44 b => Sys2Proof.Machine.execNopZp_44 b s
  | .eorZp b => Sys2Proof.Machine.execEorZp b s
  | .lsrZp b => Sys2Proof.Machine.execLsrZp b s
  | .sreZp_47 b => Sys2Proof.Machine.execSreZp_47 b s
  | .pha => Sys2Proof.Machine.execPha s
  | .eorImm b => Sys2Proof.Machine.execEorImm b s
  | .lsrAcc => Sys2Proof.Machine.execLsrAcc s
  | .alrImm_4B b => Sys2Proof.Machine.execAlrImm_4B b s
  | .jmpAbs w => Sys2Proof.Machine.execJmpAbs w s
  | .eorAbs w => Sys2Proof.Machine.execEorAbs w s
  | .lsrAbs w => Sys2Proof.Machine.execLsrAbs w s
  | .sreAbs_4F w => Sys2Proof.Machine.execSreAbs_4F w s
  | .bvc b => Sys2Proof.Machine.execBvc b s
  | .eorIzy b => Sys2Proof.Machine.execEorIzy b s
  | .kil_52 => Sys2Proof.Machine.execKil_52 s
  | .sreIzy_53 b => Sys2Proof.Machine.execSreIzy_53 b s
  | .nopZpx_54 b => Sys2Proof.Machine.execNopZpx_54 b s
  | .eorZpx b => Sys2Proof.Machine.execEorZpx b s
  | .lsrZpx b => Sys2Proof.Machine.execLsrZpx b s
  | .sreZpx_57 b => Sys2Proof.Machine.execSreZpx_57 b s
  | .cli => Sys2Proof.Machine.execCli s
  | .eorAbsy w => Sys2Proof.Machine.execEorAbsy w s
  | .nop_5A => Sys2Proof.Machine.execNop_5A s
  | .sreAbsy_5B w => Sys2Proof.Machine.execSreAbsy_5B w s
  | .nopAbsx_5C w => Sys2Proof.Machine.execNopAbsx_5C w s
  | .eorAbsx w => Sys2Proof.Machine.execEorAbsx w s
  | .lsrAbsx w => Sys2Proof.Machine.execLsrAbsx w s
  | .sreAbsx_5F w => Sys2Proof.Machine.execSreAbsx_5F w s
  | .rts => Sys2Proof.Machine.execRts s
  | .adcIzx b => Sys2Proof.Machine.execAdcIzx b s
  | .kil_62 => Sys2Proof.Machine.execKil_62 s
  | .rraIzx_63 b => Sys2Proof.Machine.execRraIzx_63 b s
  | .nopZp_64 b => Sys2Proof.Machine.execNopZp_64 b s
  | .adcZp b => Sys2Proof.Machine.execAdcZp b s
  | .rorZp b => Sys2Proof.Machine.execRorZp b s
  | .rraZp_67 b => Sys2Proof.Machine.execRraZp_67 b s
  | .pla => Sys2Proof.Machine.execPla s
  | .adcImm b => Sys2Proof.Machine.execAdcImm b s
  | .rorAcc => Sys2Proof.Machine.execRorAcc s
  | .arrImm_6B b => Sys2Proof.Machine.execArrImm_6B b s
  | .jmpInd w => Sys2Proof.Machine.execJmpInd w s
  | .adcAbs w => Sys2Proof.Machine.execAdcAbs w s
  | .rorAbs w => Sys2Proof.Machine.execRorAbs w s
  | .rraAbs_6F w => Sys2Proof.Machine.execRraAbs_6F w s
  | .bvs b => Sys2Proof.Machine.execBvs b s
  | .adcIzy b => Sys2Proof.Machine.execAdcIzy b s
  | .kil_72 => Sys2Proof.Machine.execKil_72 s
  | .rraIzy_73 b => Sys2Proof.Machine.execRraIzy_73 b s
  | .nopZpx_74 b => Sys2Proof.Machine.execNopZpx_74 b s
  | .adcZpx b => Sys2Proof.Machine.execAdcZpx b s
  | .rorZpx b => Sys2Proof.Machine.execRorZpx b s
  | .rraZpx_77 b => Sys2Proof.Machine.execRraZpx_77 b s
  | .sei => Sys2Proof.Machine.execSei s
  | .adcAbsy w => Sys2Proof.Machine.execAdcAbsy w s
  | .nop_7A => Sys2Proof.Machine.execNop_7A s
  | .rraAbsy_7B w => Sys2Proof.Machine.execRraAbsy_7B w s
  | .nopAbsx_7C w => Sys2Proof.Machine.execNopAbsx_7C w s
  | .adcAbsx w => Sys2Proof.Machine.execAdcAbsx w s
  | .rorAbsx w => Sys2Proof.Machine.execRorAbsx w s
  | .rraAbsx_7F w => Sys2Proof.Machine.execRraAbsx_7F w s
  | .nopImm_80 b => Sys2Proof.Machine.execNopImm_80 b s
  | .staIzx b => Sys2Proof.Machine.execStaIzx b s
  | .nopImm_82 b => Sys2Proof.Machine.execNopImm_82 b s
  | .saxIzx_83 b => Sys2Proof.Machine.execSaxIzx_83 b s
  | .styZp b => Sys2Proof.Machine.execStyZp b s
  | .staZp b => Sys2Proof.Machine.execStaZp b s
  | .stxZp b => Sys2Proof.Machine.execStxZp b s
  | .saxZp_87 b => Sys2Proof.Machine.execSaxZp_87 b s
  | .dey => Sys2Proof.Machine.execDey s
  | .nopImm_89 b => Sys2Proof.Machine.execNopImm_89 b s
  | .txa => Sys2Proof.Machine.execTxa s
  | .xaaImm_8B b => Sys2Proof.Machine.execXaaImm_8B b s
  | .styAbs w => Sys2Proof.Machine.execStyAbs w s
  | .staAbs w => Sys2Proof.Machine.execStaAbs w s
  | .stxAbs w => Sys2Proof.Machine.execStxAbs w s
  | .saxAbs_8F w => Sys2Proof.Machine.execSaxAbs_8F w s
  | .bcc b => Sys2Proof.Machine.execBcc b s
  | .staIzy b => Sys2Proof.Machine.execStaIzy b s
  | .kil_92 => Sys2Proof.Machine.execKil_92 s
  | .ahxIzy_93 b => Sys2Proof.Machine.execAhxIzy_93 b s
  | .styZpx b => Sys2Proof.Machine.execStyZpx b s
  | .staZpx b => Sys2Proof.Machine.execStaZpx b s
  | .stxZpy b => Sys2Proof.Machine.execStxZpy b s
  | .saxZpy_97 b => Sys2Proof.Machine.execSaxZpy_97 b s
  | .tya => Sys2Proof.Machine.execTya s
  | .staAbsy w => Sys2Proof.Machine.execStaAbsy w s
  | .txs => Sys2Proof.Machine.execTxs s
  | .tasAbsy_9B w => Sys2Proof.Machine.execTasAbsy_9B w s
  | .shyAbsx_9C w => Sys2Proof.Machine.execShyAbsx_9C w s
  | .staAbsx w => Sys2Proof.Machine.execStaAbsx w s
  | .shxAbsy_9E w => Sys2Proof.Machine.execShxAbsy_9E w s
  | .ahxAbsy_9F w => Sys2Proof.Machine.execAhxAbsy_9F w s
  | .ldyImm b => Sys2Proof.Machine.execLdyImm b s
  | .ldaIzx b => Sys2Proof.Machine.execLdaIzx b s
  | .ldxImm b => Sys2Proof.Machine.execLdxImm b s
  | .laxIzx_A3 b => Sys2Proof.Machine.execLaxIzx_A3 b s
  | .ldyZp b => Sys2Proof.Machine.execLdyZp b s
  | .ldaZp b => Sys2Proof.Machine.execLdaZp b s
  | .ldxZp b => Sys2Proof.Machine.execLdxZp b s
  | .laxZp_A7 b => Sys2Proof.Machine.execLaxZp_A7 b s
  | .tay => Sys2Proof.Machine.execTay s
  | .ldaImm b => Sys2Proof.Machine.execLdaImm b s
  | .tax => Sys2Proof.Machine.execTax s
  | .laxImm_AB b => Sys2Proof.Machine.execLaxImm_AB b s
  | .ldyAbs w => Sys2Proof.Machine.execLdyAbs w s
  | .ldaAbs w => Sys2Proof.Machine.execLdaAbs w s
  | .ldxAbs w => Sys2Proof.Machine.execLdxAbs w s
  | .laxAbs_AF w => Sys2Proof.Machine.execLaxAbs_AF w s
  | .bcs b => Sys2Proof.Machine.execBcs b s
  | .ldaIzy b => Sys2Proof.Machine.execLdaIzy b s
  | .kil_B2 => Sys2Proof.Machine.execKil_B2 s
  | .laxIzy_B3 b => Sys2Proof.Machine.execLaxIzy_B3 b s
  | .ldyZpx b => Sys2Proof.Machine.execLdyZpx b s
  | .ldaZpx b => Sys2Proof.Machine.execLdaZpx b s
  | .ldxZpy b => Sys2Proof.Machine.execLdxZpy b s
  | .laxZpy_B7 b => Sys2Proof.Machine.execLaxZpy_B7 b s
  | .clv => Sys2Proof.Machine.execClv s
  | .ldaAbsy w => Sys2Proof.Machine.execLdaAbsy w s
  | .tsx => Sys2Proof.Machine.execTsx s
  | .lasAbsy_BB w => Sys2Proof.Machine.execLasAbsy_BB w s
  | .ldyAbsx w => Sys2Proof.Machine.execLdyAbsx w s
  | .ldaAbsx w => Sys2Proof.Machine.execLdaAbsx w s
  | .ldxAbsy w => Sys2Proof.Machine.execLdxAbsy w s
  | .laxAbsy_BF w => Sys2Proof.Machine.execLaxAbsy_BF w s
  | .cpyImm b => Sys2Proof.Machine.execCpyImm b s
  | .cmpIzx b => Sys2Proof.Machine.execCmpIzx b s
  | .nopImm_C2 b => Sys2Proof.Machine.execNopImm_C2 b s
  | .dcpIzx_C3 b => Sys2Proof.Machine.execDcpIzx_C3 b s
  | .cpyZp b => Sys2Proof.Machine.execCpyZp b s
  | .cmpZp b => Sys2Proof.Machine.execCmpZp b s
  | .decZp b => Sys2Proof.Machine.execDecZp b s
  | .dcpZp_C7 b => Sys2Proof.Machine.execDcpZp_C7 b s
  | .iny => Sys2Proof.Machine.execIny s
  | .cmpImm b => Sys2Proof.Machine.execCmpImm b s
  | .dex => Sys2Proof.Machine.execDex s
  | .axsImm_CB b => Sys2Proof.Machine.execAxsImm_CB b s
  | .cpyAbs w => Sys2Proof.Machine.execCpyAbs w s
  | .cmpAbs w => Sys2Proof.Machine.execCmpAbs w s
  | .decAbs w => Sys2Proof.Machine.execDecAbs w s
  | .dcpAbs_CF w => Sys2Proof.Machine.execDcpAbs_CF w s
  | .bne b => Sys2Proof.Machine.execBne b s
  | .cmpIzy b => Sys2Proof.Machine.execCmpIzy b s
  | .kil_D2 => Sys2Proof.Machine.execKil_D2 s
  | .dcpIzy_D3 b => Sys2Proof.Machine.execDcpIzy_D3 b s
  | .nopZpx_D4 b => Sys2Proof.Machine.execNopZpx_D4 b s
  | .cmpZpx b => Sys2Proof.Machine.execCmpZpx b s
  | .decZpx b => Sys2Proof.Machine.execDecZpx b s
  | .dcpZpx_D7 b => Sys2Proof.Machine.execDcpZpx_D7 b s
  | .cld => Sys2Proof.Machine.execCld s
  | .cmpAbsy w => Sys2Proof.Machine.execCmpAbsy w s
  | .nop_DA => Sys2Proof.Machine.execNop_DA s
  | .dcpAbsy_DB w => Sys2Proof.Machine.execDcpAbsy_DB w s
  | .nopAbsx_DC w => Sys2Proof.Machine.execNopAbsx_DC w s
  | .cmpAbsx w => Sys2Proof.Machine.execCmpAbsx w s
  | .decAbsx w => Sys2Proof.Machine.execDecAbsx w s
  | .dcpAbsx_DF w => Sys2Proof.Machine.execDcpAbsx_DF w s
  | .cpxImm b => Sys2Proof.Machine.execCpxImm b s
  | .sbcIzx b => Sys2Proof.Machine.execSbcIzx b s
  | .nopImm_E2 b => Sys2Proof.Machine.execNopImm_E2 b s
  | .iscIzx_E3 b => Sys2Proof.Machine.execIscIzx_E3 b s
  | .cpxZp b => Sys2Proof.Machine.execCpxZp b s
  | .sbcZp b => Sys2Proof.Machine.execSbcZp b s
  | .incZp b => Sys2Proof.Machine.execIncZp b s
  | .iscZp_E7 b => Sys2Proof.Machine.execIscZp_E7 b s
  | .inx => Sys2Proof.Machine.execInx s
  | .sbcImm b => Sys2Proof.Machine.execSbcImm b s
  | .nop => Sys2Proof.Machine.execNop s
  | .sbcImm_EB b => Sys2Proof.Machine.execSbcImm_EB b s
  | .cpxAbs w => Sys2Proof.Machine.execCpxAbs w s
  | .sbcAbs w => Sys2Proof.Machine.execSbcAbs w s
  | .incAbs w => Sys2Proof.Machine.execIncAbs w s
  | .iscAbs_EF w => Sys2Proof.Machine.execIscAbs_EF w s
  | .beq b => Sys2Proof.Machine.execBeq b s
  | .sbcIzy b => Sys2Proof.Machine.execSbcIzy b s
  | .kil_F2 => Sys2Proof.Machine.execKil_F2 s
  | .iscIzy_F3 b => Sys2Proof.Machine.execIscIzy_F3 b s
  | .nopZpx_F4 b => Sys2Proof.Machine.execNopZpx_F4 b s
  | .sbcZpx b => Sys2Proof.Machine.execSbcZpx b s
  | .incZpx b => Sys2Proof.Machine.execIncZpx b s
  | .iscZpx_F7 b => Sys2Proof.Machine.execIscZpx_F7 b s
  | .sed => Sys2Proof.Machine.execSed s
  | .sbcAbsy w => Sys2Proof.Machine.execSbcAbsy w s
  | .nop_FA => Sys2Proof.Machine.execNop_FA s
  | .iscAbsy_FB w => Sys2Proof.Machine.execIscAbsy_FB w s
  | .nopAbsx_FC w => Sys2Proof.Machine.execNopAbsx_FC w s
  | .sbcAbsx w => Sys2Proof.Machine.execSbcAbsx w s
  | .incAbsx w => Sys2Proof.Machine.execIncAbsx w s
  | .iscAbsx_FF w => Sys2Proof.Machine.execIscAbsx_FF w s

end Sys2Proof.Machine
end

