-- ==== Sys2Proof/Machine/Fetch.lean ====
section
/-! DEFINITION. Fetching an instruction (R61, R69, R87), the interrupt check at the start of a CPU step (R151, R152), and placing
an instruction where the next step fetches it. `Step.lean` only calls these. -/

namespace Sys2Proof.Machine

/-- The operand byte of a one-byte operand is read on the bus by every row but an illegal immediate, whose resolver and policy
make no read of it (R73, R147; log 9). -/
def readsOperandByte (d : Descriptor) : Bool :=
  !(d.mode == .imm && d.opClass == .illegal)

/-- Fetch the instruction at `PC`: the opcode read, then the operand bytes its row has, in address order (R61, R69, R87). The
opcode's row then makes the instruction of these bytes, as the decoder does. -/
def fetch (s : State) : Instr × State :=
  let op := memRead s.pc s
  let row := rowOf op.1
  match row.build with
  | .bare i => (i, op.2)
  | .byte f =>
    let b := memRead (s.pc + 1) op.2
    (f b.1, if readsOperandByte row.descriptor then b.2 else op.2)
  | .word f =>
    let w := memRead16 (s.pc + 1) op.2
    (f w.1, w.2)

/-- The IRQ sample of a console step (R151): the line's next sample, taken into an empty slot only (R154, log 6). -/
def sampleIrq (s : State) : State :=
  let asserted := s.irqInput.headD false
  let s := s.setIrqInput s.irqInput.tail
  if asserted && s.pending.isNone then s.setPending (some .irq) else s

/-- `Serviceable(pending, I)` (R152), the answer. -/
def serviceable (pending : Option Interrupt) (i : Bool) : Option Interrupt :=
  match pending with
  | some .nmi => some .nmi
  | some .irq => if i then none else some .irq
  | none => none

/-- `Serviceable(pending, I)` (R152), the effect: under `drop` a masked request is discarded. -/
def dropMasked (s : State) : State :=
  if s.pending = some .irq ∧ s.p.i = true ∧ s.cfg.irqMaskedPolicy = .drop then s.setPending none
  else s

/-- An address that names a plain byte of memory: work RAM, PRG-RAM or program ROM. -/
def isPlain (a : Word) : Bool :=
  (cpuTranslate a).subsystem == .ram || (cpuTranslate a).subsystem == .mapper

/-- Place a byte where the loader or a store would put it: work RAM, PRG-RAM, or program ROM (log 3). -/
def placeByte (a : Word) (d : Byte) (s : State) : State :=
  let t := cpuTranslate a
  match t.subsystem with
  | .ram => s.setRam (s.ram.write t.offset.toNat d)
  | .mapper =>
    if t.offset < 0x8000 then s.setCart (mapperWrite t.offset d s.cart)
    else s.setCart { s.cart with prg := s.cart.prg.write (prgOffset s.cart t.offset) d }
  | _ => s

/-- Place bytes at consecutive addresses. -/
def placeBytes : Word → List Byte → State → State
  | _, [], s => s
  | a, d :: ds, s => placeBytes (a + 1) ds (placeByte a d s)

/-- Make the next step fetch: no recorded fault, and no interrupt that the next step would service (log 13). -/
def quiet (s : State) : State :=
  let s := { s with fault := none }
  let s := if (serviceable s.pending s.p.i).isSome then s.setPending none else s
  if s.irqInput.headD false then s.setIrqInput (false :: s.irqInput) else s

/-- The program counter when the three bytes from it are plain memory; else 0x0200, in work RAM (log 13). -/
def plainPc (pc : Word) : Word :=
  if isPlain pc && isPlain (pc + 1) && isPlain (pc + 2) then pc else 0x0200

/-- An instruction's bytes placed where the next step fetches, and that step made to fetch them. -/
def placeInstr (bytes : List Byte) (s : State) : State :=
  let s := (quiet s).setPc (plainPc s.pc)
  placeBytes s.pc bytes s

end Sys2Proof.Machine
end

