-- ==== Sys2Proof/Machine/Sequencer.lean ====
section
/-! DEFINITION. The PPU's dot sequencer: one dot is the NMI countdown, the counter advance, then the events at the new position
(R173 to R183). -/

namespace Sys2Proof.Machine

/-- The NMI condition at the end of the countdown (R173). -/
def Ppu.nmiDelivers (p : Ppu) : Bool :=
  decide (p.nmiDelay = 1) && p.ctrl.nmiOutput && p.nmiOccurred

/-- `NmiTick()` (R173): count down; on reaching 0 the NMI goes into the slot, if its condition still holds. -/
def nmiTick (s : State) : State :=
  { s with
    ppu := { s.ppu with nmiDelay := s.ppu.nmiDelay - 1 }
    pending := if s.ppu.nmiDelivers then some .nmi else s.pending }

/-- The wrap into the next frame (R175). -/
def Ppu.wrapFrame (p : Ppu) : Ppu :=
  { p with dot := 0, scanline := 0, frame := p.frame + 1, oddFrame := !p.oddFrame }

/-- The odd-frame skip applies at this dot (R175, D16). -/
def Ppu.skipsDot (skipRequiresRendering : Bool) (p : Ppu) : Bool :=
  decide (p.scanline = 261) && decide (p.dot = 339) && p.oddFrame &&
  (p.renderingEnabled || !skipRequiresRendering)

/-- `Advance()` (R175). -/
def Ppu.advance (skipRequiresRendering : Bool) (p : Ppu) : Ppu :=
  if p.skipsDot skipRequiresRendering then p.wrapFrame
  else if p.dot + 1 = 341 then
    if p.scanline + 1 = 262 then p.wrapFrame
    else { p with dot := 0, scanline := p.scanline + 1 }
  else { p with dot := p.dot + 1 }

/-- The counters are at a position. -/
def Ppu.isAt (scanline dot : Nat) (p : Ppu) : Bool :=
  decide (p.scanline = scanline) && decide (p.dot = dot)

/-- The vertical-blank events (R176). -/
def Ppu.vblankEvents (delay : Nat) (p : Ppu) : Ppu :=
  if p.isAt 241 1 then Ppu.nmiChange delay { p with nmiOccurred := true }
  else if p.isAt 261 1 then
    { Ppu.nmiChange delay { p with nmiOccurred := false } with
      sprite0Hit := false, spriteOverflow := false }
  else p

/-- A rendering line (R177): 0 to 239, or the pre-render line 261. -/
def Ppu.onRenderingLine (p : Ppu) : Bool :=
  decide (p.scanline ≤ 239) || decide (p.scanline = 261)

/-- Rendering happens at this dot's line: enabled, and a rendering line (R177 to R180). -/
def Ppu.rendering (p : Ppu) : Bool := p.renderingEnabled && p.onRenderingLine

/-- The fetch windows, dots 1 to 256 and 321 to 336 (R177). -/
def Ppu.inFetchWindow (p : Ppu) : Bool :=
  (decide (1 ≤ p.dot) && decide (p.dot ≤ 256)) || (decide (321 ≤ p.dot) && decide (p.dot ≤ 336))

/-- `v` as a 16-bit number. -/
def Ppu.v16 (p : Ppu) : Word := p.v.setWidth 16

/-- The nametable byte's address (R177). -/
def Ppu.ntAddress (p : Ppu) : Word := 0x2000 ||| (p.v16 &&& 0x0FFF)

/-- The attribute byte's address (R177). -/
def Ppu.atAddress (p : Ppu) : Word :=
  0x23C0 ||| (p.v16 &&& 0x0C00) ||| (bitsFrom p.v16 4 &&& 0x38) ||| (bitsFrom p.v16 2 &&& 0x07)

/-- The low pattern byte's address (R177). -/
def Ppu.patternAddress (p : Ppu) : Word :=
  (if p.ctrl.bgTable then 0x1000 else 0) + 16 * p.ntLatch.setWidth 16 + bitsFrom p.v16 12

/-- `IncX()` (R178). -/
def Ppu.incX (p : Ppu) : Ppu :=
  { p with v := if p.v &&& 0x001F = 31 then (p.v &&& 0x7FE0) ^^^ 0x0400 else p.v + 1 }

/-- The coarse Y after an `IncY` whose fine Y wraps, and whether the vertical nametable switches (R179). -/
def Ppu.nextCoarseY (p : Ppu) : BitVec 15 × Bool :=
  let y := (p.v >>> 5) &&& 0x001F
  if y = 29 then (0, true) else if y = 31 then (0, false) else (y + 1, false)

/-- `IncY()` (R179). -/
def Ppu.incY (p : Ppu) : Ppu :=
  { p with
    v :=
      if p.v >>> 12 = 7 then
        let w := p.v &&& 0x0FFF
        let w := if p.nextCoarseY.2 then w ^^^ 0x0800 else w
        let y : BitVec 15 := p.nextCoarseY.1 <<< 5
        (w &&& 0x7C1F) ||| y
      else p.v + 0x1000 }

/-- The horizontal scroll copy (R180). -/
def Ppu.copyX (p : Ppu) : Ppu := { p with v := (p.v &&& 0x7BE0) ||| (p.t &&& 0x041F) }

/-- The vertical scroll copy (R181). -/
def Ppu.copyY (p : Ppu) : Ppu := { p with v := (p.v &&& 0x041F) ||| (p.t &&& 0x7BE0) }

/-- The background fetch event of this dot (R177); the store event changes no state (R183). -/
def fetchEvent (s : State) : State :=
  if s.ppu.rendering && s.ppu.inFetchWindow then
    match s.ppu.dot % 8 with
    | 1 => s.setPpu { s.ppu with ntLatch := ppuRead s s.ppu.ntAddress }
    | 3 => s.setPpu { s.ppu with atLatch := ppuRead s s.ppu.atAddress }
    | 5 => s.setPpu { s.ppu with loLatch := ppuRead s s.ppu.patternAddress }
    | 7 => s.setPpu { s.ppu with hiLatch := ppuRead s (s.ppu.patternAddress + 8) }
    | 0 => s.setPpu s.ppu.incX
    | _ => s
  else s

/-- The scroll events of this dot: `IncY` at 256, the horizontal copy at 257, the vertical copy at 280 to 304 of line 261
(R179, R180, R181). -/
def Ppu.scrollEvents (p : Ppu) : Ppu :=
  if p.rendering then
    if p.dot = 256 then p.incY
    else if p.dot = 257 then p.copyX
    else if p.scanline = 261 ∧ 280 ≤ p.dot ∧ p.dot ≤ 304 then p.copyY
    else p
  else p

/-- The dots at which sprite flags are drawn (R182). -/
def Ppu.drawsSpriteFlags (p : Ppu) : Bool :=
  p.renderingEnabled && decide (p.scanline ≤ 239) && decide (1 ≤ p.dot) && decide (p.dot ≤ 256)

/-- `SpriteFlagDraw()` (R182, D29): each flag is set when its free value says so. -/
def spriteFlagEvent (s : State) : State :=
  if s.ppu.drawsSpriteFlags then
    (s.setPpu { s.ppu with
      sprite0Hit := s.ppu.sprite0Hit || Config.spriteHitDraw s.draws
      spriteOverflow := s.ppu.spriteOverflow || Config.spriteOverflowDraw s.draws }).nextDraw
  else s

/-- `DotEvents()` (R174): the events of R176 to R182, in the rules' order, at the new position. -/
def dotEvents (s : State) : State :=
  let s := s.setPpu (s.ppu.vblankEvents s.cfg.nmiDelay)
  let s := fetchEvent s
  let s := s.setPpu s.ppu.scrollEvents
  spriteFlagEvent s

/-- `PpuStep()` (R174): one dot. -/
def ppuStep (s : State) : State :=
  let s := nmiTick s
  let s := s.setPpu (s.ppu.advance s.cfg.oddSkipRequiresRendering)
  dotEvents s

/-- A number of dots (R186). -/
def ppuRun : Nat → State → State
  | 0, s => s
  | n + 1, s => ppuRun n (ppuStep s)

end Sys2Proof.Machine
end

