-- ==== Sys2Proof/Machine/Step.lean ====
section
/-! DEFINITION. One step of the machine: one console step (R186), which is the IRQ sample, one CPU step (R69), then three dots for
every cycle it consumed. -/

namespace Sys2Proof.Machine

/-- `CpuStep()` (R69) in a state without a fault: service one interrupt, or fetch and execute one instruction. -/
def cpuStep (s : State) : Host.Outcome State Fault Refusal :=
  match serviceable s.pending s.p.i with
  | some k => .next (serviceInterrupt k s)
  | none =>
    let f := fetch (dropMasked s)
    exec f.1 f.2

/-- The dots that follow a CPU step: `PPU_PER_CPU` = 3 for each cycle since the counter read `before` (R186). -/
def runDots (before : Nat) (r : Host.Outcome State Fault Refusal) :
    Host.Outcome State Fault Refusal :=
  match r with
  | .next s => .next (ppuRun (3 * (s.cycles - before)) s)
  | .fault f => .fault f
  | .refused f => .refused f

/-- `ConsoleStep()` (R186). A state with a recorded fault takes no step (R17, log 7). -/
def step (s : State) : Host.Outcome State Fault Refusal :=
  match s.fault with
  | some r => .fault (.stuck r)
  | none => runDots s.cycles (cpuStep (sampleIrq s))

/-- The state with the instruction of bits `w` (numbered as the opcode table numbers them) stored where `step` fetches its next
instruction, so that the next step fetches and runs exactly it (log 13). -/
def State.withFetchWord (s : State) (nbits w : Nat) : State :=
  placeInstr (tableBytes nbits w) s

end Sys2Proof.Machine
end

