-- ==== Sys2Proof/Machine/Frame.lean ====
section
/-! DEFINITION. The host's frame macro step (R187): console steps until the cycle counter has advanced by `FRAME_CYCLES`. -/

namespace Sys2Proof.Machine

/-- Console steps while the cycle counter is below `target`, at most `fuel` of them (R187, log 11). -/
def frameLoop (target : Nat) : Nat → State → Host.Outcome State Fault Refusal
  | 0, s => .next s
  | fuel + 1, s =>
    if s.cycles < target ∧ s.fault = none then
      match step s with
      | .next t => frameLoop target fuel t
      | .fault f => .fault f
      | .refused f => .refused f
    else .next s

/-- `FrameStep()` (R187). Every console step consumes at least one cycle, so `FRAME_CYCLES` steps are enough. -/
def frameStep (s : State) : Host.Outcome State Fault Refusal :=
  frameLoop (s.cycles + s.cfg.frameCycles) s.cfg.frameCycles s

end Sys2Proof.Machine
end

