-- ==== Sys2Proof/Machine/Console.lean ====
section
/-! DEFINITION. The host's side of the console (R206): constructing it from a cartridge record, unless the record
is rejected (R192, R31, K11), the launch (R194), the
host's two driving moves (R193, R187), and what the host can read. -/

namespace Sys2Proof.Machine

/-- The mapper a record asks for (R206): the baseline fixed-bank mapper, or one of the variants that the spec describes "only as an
extension point" (R3(e), K12), by whatever number tells them apart. The spec gives no mapper a number. -/
inductive MapperType where
  | baseline
  | variant (id : Nat)
  deriving DecidableEq, Repr

/-- The cartridge record that the loader hands over, with the ROM bytes (R206). `programRamPages`, `batteryBackedPrgRam` and
`trainerIncluded` change no rule (R206, D22, K11), so nothing here reads them; `mapperType` decides whether a console is constructed
at all (K11). -/
structure CartridgeRecord where
  programRomPages : Nat
  characterRomPages : Nat
  programRamPages : Nat
  mapperType : MapperType
  mirrorType : Mirror
  batteryBackedPrgRam : Bool
  trainerIncluded : Bool
  programRom : List Byte
  characterRom : List Byte
  deriving DecidableEq, Repr

/-- One draw of everything that R31 leaves open at power-on (`INIT`, R5, D18): the registers and the contents of every RAM. The
samples of the IRQ line to come (R151, log 6) come with it. -/
structure PowerOnDraw where
  a : Byte
  x : Byte
  y : Byte
  sp : Byte
  pc : Word
  p : Flags
  ram : Memory
  vram : Memory
  palette : Memory
  oam : Memory
  prgRam : Memory
  chrRam : Memory
  irqInput : List Bool
  deriving DecidableEq, Repr

/-- The mapper state "created once from the parsed cartridge image" (R192, R28): program ROM its pages' bytes; character memory
its pages' bytes, or drawn RAM when there is no page (R40); PRG-RAM drawn. A ROM shorter than its pages is 0 after its end
(log 3). -/
def CartridgeRecord.cartridge (r : CartridgeRecord) (draw : PowerOnDraw) : Cartridge where
  prg := Memory.ofBytes 0 (r.programRom.take (r.programRomPages * 0x4000))
  chr :=
    if r.characterRomPages = 0 then draw.chrRam
    else Memory.ofBytes 0 (r.characterRom.take (r.characterRomPages * 0x2000))
  prgRam := draw.prgRam
  prgPages := r.programRomPages
  chrPages := r.characterRomPages
  mirror := r.mirrorType

/-- Why a record is rejected before a console is constructed, if it is (R157(a), K11, K12; log 14). -/
def CartridgeRecord.rejection (r : CartridgeRecord) : Option Refusal :=
  match r.mapperType with
  | .variant id => some (.unsupportedMapper id)
  | .baseline => if r.programRomPages = 0 then some .noProgramRom else none

/-- The console at construction with a cartridge that is not rejected (R192): the "power-on" column of R31. -/
def constructed (cfg : Config) (draw : PowerOnDraw) (r : CartridgeRecord) : State where
  a := draw.a
  x := draw.x
  y := draw.y
  sp := draw.sp
  pc := draw.pc
  p := draw.p
  cycles := 0
  pending := none
  fault := none
  diag := []
  ppu := Ppu.afterReset draw.vram draw.palette draw.oam
  ram := draw.ram
  cart := r.cartridge draw
  cfg := cfg
  irqInput := draw.irqInput
  draws := 0

/-- Constructing the console with a cartridge record (R192, R206): refused for a record that is rejected (K11, K12). -/
def powerOn (cfg : Config) (draw : PowerOnDraw) (r : CartridgeRecord) : Result :=
  match r.rejection with
  | some f => .refused f
  | none => .next (constructed cfg draw r)

/-- An outcome, then what follows in its next state. -/
def andThen (o : Result) (f : State → Result) : Result :=
  match o with
  | .next s => f s
  | .fault e => .fault e
  | .refused e => .refused e

/-- The launch of a run (R194): power-on, then one `Reset()`. No instruction runs before that reset (R192). -/
def launch (cfg : Config) (draw : PowerOnDraw) (r : CartridgeRecord) : Result :=
  andThen (powerOn cfg draw r) fun s => .next (consoleReset s)

/-- The draw that `State.reset` takes (log 1, log 2). -/
def PowerOnDraw.named : PowerOnDraw where
  a := 0
  x := 0
  y := 0
  sp := 0
  pc := 0
  p := Flags.atReset
  ram := []
  vram := []
  palette := []
  oam := []
  prgRam := []
  chrRam := []
  irqInput := []

/-- The record of the blank cartridge, `Cartridge.blank` (log 3). -/
def CartridgeRecord.blank : CartridgeRecord where
  programRomPages := 1
  characterRomPages := 1
  programRamPages := 1
  mapperType := .baseline
  mirrorType := .vertical
  batteryBackedPrgRam := false
  trainerIncluded := false
  programRom := []
  characterRom := []

/-- The host's moves on a console it has constructed (R206): `Console.reset()` and `Console.executeCycle()`. There is no other:
"the host never writes CPU, PPU or memory state directly". -/
inductive HostMove where
  | reset | executeCycle
  deriving DecidableEq, Repr

/-- One move of the host (R193, R187). -/
def hostMove (m : HostMove) (s : State) : Result :=
  match m with
  | .reset => .next (consoleReset s)
  | .executeCycle => frameStep s

/-- The host's moves one after another. -/
def hostMoves : List HostMove → State → Result
  | [], s => .next s
  | m :: ms, s => andThen (hostMove m s) (hostMoves ms)

/-- All that a host can do with one record (R192, R194, R206): construct the console, reset it, then any moves. A record that is
rejected has no run (K11). -/
def hostRun (cfg : Config) (draw : PowerOnDraw) (r : CartridgeRecord) (moves : List HostMove) : Result :=
  andThen (launch cfg draw r) (hostMoves moves)

/-- What the host can read, with no effect on the console (R206): the PPU's state, from which pixels are made (R183; all of it,
log 11), and the mapper's RAM buffer byte by byte. -/
structure HostView where
  ppu : Ppu
  mapperRam : List Byte
  deriving DecidableEq, Repr

/-- The host's reading of a console (R206); the buffer has `PRG_RAM_SIZE` bytes (R28). -/
def hostView (s : State) : HostView := ⟨s.ppu, s.cart.prgRam.bytes 8192⟩

end Sys2Proof.Machine
end

