-- ==== Sys2Proof/Machine/Run.lean ====
section
/-! DEFINITION. A run from its launch to its end (R207, D51): console steps to the first boundary at which the run has ended, whose
state is the observation; a run that faults, and a run that hangs, told apart from it. -/

namespace Sys2Proof.Machine

/-- The run has ended at this console step boundary (R207): `PC = END_PC`, no pending interrupt, no fault. -/
def State.runEnded (s : State) : Bool :=
  s.pc == s.cfg.endPc && s.pending.isNone && s.fault.isNone

/-- What is known of a run after a number of console steps (R207). -/
inductive RunOutcome where
  /-- The run has ended; the state is the observation. R207 leaves its PPU counters and `cycles` to claims that fix the schedule. -/
  | ended (observation : State)
  /-- The run has faulted: it "never ends", and there is no observation. -/
  | faulted (r : FaultRecord)
  /-- There is no run: the record was rejected (K11, log 14). A console step never refuses (`runFor_ne_refused`). -/
  | refused (e : Refusal)
  /-- The run has not ended yet, and may never. -/
  | running (s : State)
  deriving DecidableEq, Repr

/-- How a run stands at a console step boundary, if it goes no further from there: it has faulted, or it has ended (R207). -/
def State.runStops (s : State) : Option RunOutcome :=
  match s.fault with
  | some r => some (.faulted r)
  | none => if s.runEnded then some (.ended s) else none

/-- A run goes on in the next state. -/
def goOn (o : Result) (f : State → RunOutcome) : RunOutcome :=
  match o with
  | .next s => f s
  | .fault (.stuck r) => .faulted r
  | .refused e => .refused e

/-- A run of at most `n` console steps, from a boundary on, to the FIRST boundary at which it has ended (R207). The boundary it starts
at counts (log 15). -/
def runFor : Nat → State → RunOutcome
  | 0, s => s.runStops.getD (.running s)
  | n + 1, s =>
    match s.runStops with
    | some o => o
    | none => goOn (step s) (runFor n)

/-- At most `n` console steps of the run that a launch starts (R194, R207): the launch names `END_PC`, a parameter. -/
def launchRun (cfg : Config) (draw : PowerOnDraw) (r : CartridgeRecord) (n : Nat) : RunOutcome :=
  goOn (launch cfg draw r) (runFor n)

/-- The boundaries of a run in order: `k` console steps from `s` lead to `t`, and the run goes on at each boundary before `t`. -/
def Reaches : Nat → State → State → Prop
  | 0, s, t => s = t
  | k + 1, s, t => s.runStops = none ∧ ∃ u, step s = .next u ∧ Reaches k u t

/-- The run from a boundary ends, with this observation (R207). -/
def RunObserves (s observation : State) : Prop := ∃ n, runFor n s = .ended observation

/-- The run from a boundary faults: "it refutes the observation" (R207). -/
def RunFaults (s : State) (r : FaultRecord) : Prop := ∃ n, runFor n s = .faulted r

/-- The run from a boundary hangs: it neither ends nor faults, however long it goes on; "it refutes every claim about the end" (R207,
log 15). -/
def RunHangs (s : State) : Prop := ∀ n, ∃ t, runFor n s = .running t

end Sys2Proof.Machine
end

