-- ==== Sys2Proof/Safety.lean ====
section
/-! DEFINITION. The terms claims are made in, beside the end of a run (Run.lean): the canonical and in-range memories, the bounds of the
parameters (R5), and the invariants of R22, R23 and R30. -/

namespace Sys2Proof.Machine

/-- Every memory of the machine is in the canonical form. -/
def State.memoriesWf (s : State) : Bool :=
  s.ram.wf && s.cart.prg.wf && s.cart.chr.wf && s.cart.prgRam.wf &&
  s.ppu.vram.wf && s.ppu.palette.wf && s.ppu.oam.wf

/-- The size of program ROM (R28). -/
def Cartridge.prgSize (c : Cartridge) : Nat := c.prgPages * 0x4000

/-- The size of character memory (R28): the ROM pages, or 8192 bytes of RAM when there is none. -/
def Cartridge.chrSize (c : Cartridge) : Nat :=
  if c.chrPages = 0 then 0x2000 else c.chrPages * 0x2000

/-- Every listed offset is inside its memory (R25, R27, R28): work RAM 2048 bytes, program ROM its pages, character memory its
pages or 8192 bytes, PRG-RAM 8192, VRAM 4096, palette 32, OAM 256. -/
def State.memoriesInRange (s : State) : Bool :=
  s.ram.below 2048 && s.cart.prg.below s.cart.prgSize && s.cart.chr.below s.cart.chrSize &&
  s.cart.prgRam.below 8192 &&
  s.ppu.vram.below 4096 && s.ppu.palette.below 32 && s.ppu.oam.below 256

/-- The memories of a power-on draw are canonical and inside their sizes (R25, R27, R28). -/
def PowerOnDraw.memoriesOk (d : PowerOnDraw) : Bool :=
  d.ram.wf && d.ram.below 2048 && d.vram.wf && d.vram.below 4096 && d.palette.wf && d.palette.below 32 &&
  d.oam.wf && d.oam.below 256 && d.prgRam.wf && d.prgRam.below 8192 && d.chrRam.wf && d.chrRam.below 0x2000

/-- The parameters that R5 bounds are in their range: `NMI_DELAY` and `PRG_PAGES` at least 1, `FRAME_CYCLES` positive. -/
def State.parametersInRange (s : State) : Prop :=
  1 ≤ s.cfg.nmiDelay ∧ 1 ≤ s.cfg.frameCycles ∧ 1 ≤ s.cart.prgPages

/-- The scan counters are in range (R23, R30). -/
def Ppu.countersInRange (p : Ppu) : Prop := p.dot ≤ 340 ∧ p.scanline ≤ 261

/-- The frame parity is the frame counter's (R23). -/
def Ppu.parityAgrees (p : Ppu) : Prop := p.oddFrame = decide (p.frame % 2 = 1)

/-- The edge detector holds the value of `nmiOutput & nmiOccurred` (R22, R172), and the delay counter is at most
`NMI_DELAY` (R22). -/
def State.nmiConsistent (s : State) : Prop :=
  s.ppu.nmiPrevious = (s.ppu.ctrl.nmiOutput && s.ppu.nmiOccurred) ∧
  s.ppu.nmiDelay ≤ s.cfg.nmiDelay

/-- The invariant of the machine that every step keeps. -/
structure State.Inv (s : State) : Prop where
  memoriesWf : s.memoriesWf = true
  memoriesInRange : s.memoriesInRange = true
  counters : s.ppu.countersInRange
  parity : s.ppu.parityAgrees
  nmi : s.nmiConsistent
  parameters : s.parametersInRange

end Sys2Proof.Machine
end

