-- ==== Sys2Proof/WellFormed.lean ====
section
/-! DEFINITION. When an opcode and an operand belong together (R60, R61, R65): the operand's mode is the row's mode, and the
opcode with its operand bytes is as long as the row's size. An `Instr` carries operands of the right width by its type. -/

namespace Sys2Proof

/-- The operand has the addressing mode of the opcode's row (R65). -/
def CodeWord.modeAgrees (c : CodeWord) : Bool := c.operand.mode == (lookup c.opcode).mode

/-- The bytes are as many as the row's size says (R60, R65). -/
def Descriptor.sizeAgrees (d : Descriptor) (o : Operand) : Bool := o.bytes.length + 1 == d.size

/-- A well-formed opcode and operand. -/
def CodeWord.wellFormed (c : CodeWord) : Bool :=
  c.modeAgrees && (lookup c.opcode).sizeAgrees c.operand

/-- A well-formed instruction: its opcode and operand belong together. -/
def Instr.wellFormed (i : Instr) : Bool := i.code.wellFormed

end Sys2Proof
end

