-- ==== Sys2Proof/Certificates/Slice0/Obligations.lean ====
section
/-! DEFINITION. The statements for the provers. Each docstring names the rules of `spec/` it formalises. Address and flag
arithmetic is written here with numbers where the model computes with bits, so that a statement is not the model's text again. -/

namespace Sys2Proof.Machine

/-- What bus reads may change and nothing else (R52): the PPU's registers, never its memories, the diagnostic log, and the draw
counter (the model's own field, log 5). -/
def OnlyReadEffects (s t : State) : Prop :=
  t = { s with ppu := t.ppu, diag := t.diag, draws := t.draws } ∧
  t.ppu.vram = s.ppu.vram ∧ t.ppu.palette = s.ppu.palette ∧ t.ppu.oam = s.ppu.oam

/-- The operand byte of an instruction and the state after reading it: the immediate byte, else one bus read at the effective
address. -/
def operandRead (i : Instr) (s : State) : Byte × State :=
  match i.operand with
  | .imm b => (b, s)
  | o => memRead (resolve o s).addr s

/-- The address after an instruction: `PC` plus its length in bytes (R12). -/
def nextPc (i : Instr) (s : State) : Word := s.pc + BitVec.ofNat 16 (encode i).length

/-- The cycle counter after an instruction's base and page cycles (R85). -/
def nextCycles (i : Instr) (s : State) : Nat :=
  s.cycles + i.descriptor.cycles +
    (if (resolve i.operand s).crossed = true then i.descriptor.pageCycles else 0)

/-- Z and N of a byte (R8). -/
def withZN (v : Byte) (p : Flags) : Flags := { p with z := decide (v = 0), n := v.msb }

/-- A flag as a number. -/
def flagNat (b : Bool) : Nat := if b = true then 1 else 0

/-- The work-RAM offset of the stack byte that the stack pointer value designates (R11). -/
def stackOffset (sp : Byte) : Nat := 0x100 + sp.toNat

/-- A memory is another with one byte stored at an offset: that offset reads as the byte, every other as before. -/
def StoredAt (m m' : Memory) (offset : Nat) (d : Byte) : Prop :=
  ∀ k, m'.read k = if k = offset then d else m.read k

/-- One entry of an instruction rule's Encoding line: opcode, mode, bytes, base cycles, page cycles. -/
structure RuleEncoding where
  opcode : Byte
  mode : Mode
  size : Nat
  cycles : Nat
  pageCycles : Nat
  deriving DecidableEq, Repr

/-- The Encoding lines of the instruction rules R88 to R146, written from those rules and not from the table of R65. -/
def ruleEncodings : Mnemonic → List RuleEncoding
  | .LDA =>
    [⟨0xA9, .imm, 2, 2, 0⟩, ⟨0xA5, .zp, 2, 3, 0⟩, ⟨0xB5, .zpx, 2, 4, 0⟩, ⟨0xAD, .abs, 3, 4, 0⟩,
      ⟨0xBD, .absx, 3, 4, 1⟩, ⟨0xB9, .absy, 3, 4, 1⟩, ⟨0xA1, .izx, 2, 6, 0⟩, ⟨0xB1, .izy, 2, 5, 1⟩]
  | .LDX =>
    [⟨0xA2, .imm, 2, 2, 0⟩, ⟨0xA6, .zp, 2, 3, 0⟩, ⟨0xB6, .zpy, 2, 4, 0⟩, ⟨0xAE, .abs, 3, 4, 0⟩,
      ⟨0xBE, .absy, 3, 4, 1⟩]
  | .LDY =>
    [⟨0xA0, .imm, 2, 2, 0⟩, ⟨0xA4, .zp, 2, 3, 0⟩, ⟨0xB4, .zpx, 2, 4, 0⟩, ⟨0xAC, .abs, 3, 4, 0⟩,
      ⟨0xBC, .absx, 3, 4, 1⟩]
  | .STA =>
    [⟨0x85, .zp, 2, 3, 0⟩, ⟨0x95, .zpx, 2, 4, 0⟩, ⟨0x8D, .abs, 3, 4, 0⟩, ⟨0x9D, .absx, 3, 5, 0⟩,
      ⟨0x99, .absy, 3, 5, 0⟩, ⟨0x81, .izx, 2, 6, 0⟩, ⟨0x91, .izy, 2, 6, 0⟩]
  | .STX => [⟨0x86, .zp, 2, 3, 0⟩, ⟨0x96, .zpy, 2, 4, 0⟩, ⟨0x8E, .abs, 3, 4, 0⟩]
  | .STY => [⟨0x84, .zp, 2, 3, 0⟩, ⟨0x94, .zpx, 2, 4, 0⟩, ⟨0x8C, .abs, 3, 4, 0⟩]
  | .TAX => [⟨0xAA, .imp, 1, 2, 0⟩]
  | .TAY => [⟨0xA8, .imp, 1, 2, 0⟩]
  | .TXA => [⟨0x8A, .imp, 1, 2, 0⟩]
  | .TYA => [⟨0x98, .imp, 1, 2, 0⟩]
  | .TSX => [⟨0xBA, .imp, 1, 2, 0⟩]
  | .TXS => [⟨0x9A, .imp, 1, 2, 0⟩]
  | .PHA => [⟨0x48, .imp, 1, 3, 0⟩]
  | .PLA => [⟨0x68, .imp, 1, 4, 0⟩]
  | .PHP => [⟨0x08, .imp, 1, 3, 0⟩]
  | .PLP => [⟨0x28, .imp, 1, 4, 0⟩]
  | .ADC =>
    [⟨0x69, .imm, 2, 2, 0⟩, ⟨0x65, .zp, 2, 3, 0⟩, ⟨0x75, .zpx, 2, 4, 0⟩, ⟨0x6D, .abs, 3, 4, 0⟩,
      ⟨0x7D, .absx, 3, 4, 1⟩, ⟨0x79, .absy, 3, 4, 1⟩, ⟨0x61, .izx, 2, 6, 0⟩, ⟨0x71, .izy, 2, 5, 1⟩]
  | .SBC =>
    [⟨0xE9, .imm, 2, 2, 0⟩, ⟨0xE5, .zp, 2, 3, 0⟩, ⟨0xF5, .zpx, 2, 4, 0⟩, ⟨0xED, .abs, 3, 4, 0⟩,
      ⟨0xFD, .absx, 3, 4, 1⟩, ⟨0xF9, .absy, 3, 4, 1⟩, ⟨0xE1, .izx, 2, 6, 0⟩, ⟨0xF1, .izy, 2, 5, 1⟩]
  | .AND =>
    [⟨0x29, .imm, 2, 2, 0⟩, ⟨0x25, .zp, 2, 3, 0⟩, ⟨0x35, .zpx, 2, 4, 0⟩, ⟨0x2D, .abs, 3, 4, 0⟩,
      ⟨0x3D, .absx, 3, 4, 1⟩, ⟨0x39, .absy, 3, 4, 1⟩, ⟨0x21, .izx, 2, 6, 0⟩, ⟨0x31, .izy, 2, 5, 1⟩]
  | .ORA =>
    [⟨0x09, .imm, 2, 2, 0⟩, ⟨0x05, .zp, 2, 3, 0⟩, ⟨0x15, .zpx, 2, 4, 0⟩, ⟨0x0D, .abs, 3, 4, 0⟩,
      ⟨0x1D, .absx, 3, 4, 1⟩, ⟨0x19, .absy, 3, 4, 1⟩, ⟨0x01, .izx, 2, 6, 0⟩, ⟨0x11, .izy, 2, 5, 1⟩]
  | .EOR =>
    [⟨0x49, .imm, 2, 2, 0⟩, ⟨0x45, .zp, 2, 3, 0⟩, ⟨0x55, .zpx, 2, 4, 0⟩, ⟨0x4D, .abs, 3, 4, 0⟩,
      ⟨0x5D, .absx, 3, 4, 1⟩, ⟨0x59, .absy, 3, 4, 1⟩, ⟨0x41, .izx, 2, 6, 0⟩, ⟨0x51, .izy, 2, 5, 1⟩]
  | .BIT => [⟨0x24, .zp, 2, 3, 0⟩, ⟨0x2C, .abs, 3, 4, 0⟩]
  | .CMP =>
    [⟨0xC9, .imm, 2, 2, 0⟩, ⟨0xC5, .zp, 2, 3, 0⟩, ⟨0xD5, .zpx, 2, 4, 0⟩, ⟨0xCD, .abs, 3, 4, 0⟩,
      ⟨0xDD, .absx, 3, 4, 1⟩, ⟨0xD9, .absy, 3, 4, 1⟩, ⟨0xC1, .izx, 2, 6, 0⟩, ⟨0xD1, .izy, 2, 5, 1⟩]
  | .CPX => [⟨0xE0, .imm, 2, 2, 0⟩, ⟨0xE4, .zp, 2, 3, 0⟩, ⟨0xEC, .abs, 3, 4, 0⟩]
  | .CPY => [⟨0xC0, .imm, 2, 2, 0⟩, ⟨0xC4, .zp, 2, 3, 0⟩, ⟨0xCC, .abs, 3, 4, 0⟩]
  | .INC => [⟨0xE6, .zp, 2, 5, 0⟩, ⟨0xF6, .zpx, 2, 6, 0⟩, ⟨0xEE, .abs, 3, 6, 0⟩, ⟨0xFE, .absx, 3, 7, 0⟩]
  | .DEC => [⟨0xC6, .zp, 2, 5, 0⟩, ⟨0xD6, .zpx, 2, 6, 0⟩, ⟨0xCE, .abs, 3, 6, 0⟩, ⟨0xDE, .absx, 3, 7, 0⟩]
  | .INX => [⟨0xE8, .imp, 1, 2, 0⟩]
  | .INY => [⟨0xC8, .imp, 1, 2, 0⟩]
  | .DEX => [⟨0xCA, .imp, 1, 2, 0⟩]
  | .DEY => [⟨0x88, .imp, 1, 2, 0⟩]
  | .ASL =>
    [⟨0x0A, .acc, 1, 2, 0⟩, ⟨0x06, .zp, 2, 5, 0⟩, ⟨0x16, .zpx, 2, 6, 0⟩, ⟨0x0E, .abs, 3, 6, 0⟩,
      ⟨0x1E, .absx, 3, 7, 0⟩]
  | .LSR =>
    [⟨0x4A, .acc, 1, 2, 0⟩, ⟨0x46, .zp, 2, 5, 0⟩, ⟨0x56, .zpx, 2, 6, 0⟩, ⟨0x4E, .abs, 3, 6, 0⟩,
      ⟨0x5E, .absx, 3, 7, 0⟩]
  | .ROL =>
    [⟨0x2A, .acc, 1, 2, 0⟩, ⟨0x26, .zp, 2, 5, 0⟩, ⟨0x36, .zpx, 2, 6, 0⟩, ⟨0x2E, .abs, 3, 6, 0⟩,
      ⟨0x3E, .absx, 3, 7, 0⟩]
  | .ROR =>
    [⟨0x6A, .acc, 1, 2, 0⟩, ⟨0x66, .zp, 2, 5, 0⟩, ⟨0x76, .zpx, 2, 6, 0⟩, ⟨0x6E, .abs, 3, 6, 0⟩,
      ⟨0x7E, .absx, 3, 7, 0⟩]
  | .BCC => [⟨0x90, .rel, 2, 2, 0⟩]
  | .BCS => [⟨0xB0, .rel, 2, 2, 0⟩]
  | .BEQ => [⟨0xF0, .rel, 2, 2, 0⟩]
  | .BNE => [⟨0xD0, .rel, 2, 2, 0⟩]
  | .BMI => [⟨0x30, .rel, 2, 2, 0⟩]
  | .BPL => [⟨0x10, .rel, 2, 2, 0⟩]
  | .BVC => [⟨0x50, .rel, 2, 2, 0⟩]
  | .BVS => [⟨0x70, .rel, 2, 2, 0⟩]
  | .JMP => [⟨0x4C, .abs, 3, 3, 0⟩, ⟨0x6C, .ind, 3, 5, 0⟩]
  | .JSR => [⟨0x20, .abs, 3, 6, 0⟩]
  | .RTS => [⟨0x60, .imp, 1, 6, 0⟩]
  | .BRK => [⟨0x00, .imp, 1, 7, 0⟩]
  | .RTI => [⟨0x40, .imp, 1, 6, 0⟩]
  | .CLC => [⟨0x18, .imp, 1, 2, 0⟩]
  | .SEC => [⟨0x38, .imp, 1, 2, 0⟩]
  | .CLI => [⟨0x58, .imp, 1, 2, 0⟩]
  | .SEI => [⟨0x78, .imp, 1, 2, 0⟩]
  | .CLD => [⟨0xD8, .imp, 1, 2, 0⟩]
  | .SED => [⟨0xF8, .imp, 1, 2, 0⟩]
  | .CLV => [⟨0xB8, .imp, 1, 2, 0⟩]
  | .NOP => [⟨0xEA, .imp, 1, 2, 0⟩]
  | _ => []

/-- An instruction's own opcode, mode and length, with the cycles it is charged. -/
def encodingOf (i : Instr) : RuleEncoding :=
  ⟨i.code.opcode, i.operand.mode, (encode i).length, i.descriptor.cycles, i.descriptor.pageCycles⟩

/-- The instruction is one of those that the rule of a mnemonic lists in its Encoding line. -/
abbrev Encodes (m : Mnemonic) (i : Instr) : Prop := encodingOf i ∈ ruleEncodings m

/-- The byte that a documented store writes (R91 to R93). -/
def storedByte (i : Instr) (s : State) : Option Byte :=
  if Encodes .STA i then some s.a
  else if Encodes .STX i then some s.x
  else if Encodes .STY i then some s.y
  else none

/-- The result of a documented read-modify-write mnemonic on a byte, as numbers, and the flags after it (R114, R115, R120 to
R123): INC and DEC leave C, the shifts take it from the bit shifted out. -/
def modifiedByte (m : Mnemonic) (v : Byte) (p : Flags) : Option (Byte × Flags) :=
  let shifted (r : Nat) (out : Bool) : Option (Byte × Flags) :=
    some (BitVec.ofNat 8 r, withZN (BitVec.ofNat 8 r) { p with c := out })
  match m with
  | .INC => some (BitVec.ofNat 8 (v.toNat + 1), withZN (BitVec.ofNat 8 (v.toNat + 1)) p)
  | .DEC => some (BitVec.ofNat 8 (v.toNat + 255), withZN (BitVec.ofNat 8 (v.toNat + 255)) p)
  | .ASL => shifted (2 * v.toNat) (decide (128 ≤ v.toNat))
  | .LSR => shifted (v.toNat / 2) (decide (v.toNat % 2 = 1))
  | .ROL => shifted (2 * v.toNat + flagNat p.c) (decide (128 ≤ v.toNat))
  | .ROR => shifted (v.toNat / 2 + 128 * flagNat p.c) (decide (v.toNat % 2 = 1))
  | _ => none

/-- Whether a branch mnemonic is taken (R125 to R132). -/
def branchTaken (m : Mnemonic) (p : Flags) : Option Bool :=
  match m with
  | .BCC => some !p.c
  | .BCS => some p.c
  | .BEQ => some p.z
  | .BNE => some !p.z
  | .BMI => some p.n
  | .BPL => some !p.n
  | .BVC => some !p.v
  | .BVS => some p.v
  | _ => none

/-- The 16-bit value at a vector, low byte first (R59), read in a state. -/
def vectorAt (low high : Word) (s : State) : Word := (memRead high s).1 ++ (memRead low s).1

/-- A CPU address of the PPU register with the given select number (R33, R160). -/
def selectsPpu (a : Word) (sel : Nat) : Prop :=
  0x2000 ≤ a.toNat ∧ a.toNat < 0x4000 ∧ a.toNat % 8 = sel

/-- The physical quadrant of a nametable quadrant (R45). -/
def physicalQuadrant : Mirror → Nat → Nat
  | .horizontal, q => q / 2
  | .vertical, q => q % 2
  | .singleLower, _ => 0
  | .singleUpper, _ => 1
  | .fourScreen, q => q

/-- The `vram` index of a nametable address (R44, R45). -/
def nametableIndex (m : Mirror) (addr : Nat) : Nat :=
  0x400 * physicalQuadrant m (addr / 0x400 % 4) + addr % 0x400

/-- The palette entry of an address: 16, 20, 24 and 28 are 0, 4, 8 and 12 (R46). -/
def paletteEntry (addr : Nat) : Nat :=
  if addr % 4 = 0 ∧ 16 ≤ addr % 32 then addr % 32 - 16 else addr % 32

/-- The byte at a PPU address below 0x4000: character memory, nametable, palette (R40, R43 to R47). -/
def ppuByte (s : State) (addr : Nat) : Byte :=
  if addr < 0x2000 then s.cart.chr.read addr
  else if addr < 0x3F00 then s.ppu.vram.read (nametableIndex s.cart.mirror addr)
  else s.ppu.palette.read (paletteEntry addr)

/-- A byte of a ROM of `size` bytes: the loader's byte, 0 past the end of a list that is too short (log 3). -/
def imageByte (rom : List Byte) (size k : Nat) : Byte := if k < size then rom.getD k 0 else 0

/-- The PPU with every item of R31 at its value there, 0, around the given memories. -/
def zeroPpu (vram palette oam : Memory) : Ppu :=
  { v := 0, t := 0, x := 0, w := false,
    ctrl := ⟨false, false, false, false, false, false⟩,
    mask := ⟨false, false, false, false, false, false, false, false⟩,
    nmiOccurred := false, sprite0Hit := false, spriteOverflow := false, nmiPrevious := false,
    nmiDelay := 0, dot := 0, scanline := 0, frame := 0, oddFrame := false,
    oamAddr := 0, readBuffer := 0, regLatch := 0,
    ntLatch := 0, atLatch := 0, loLatch := 0, hiLatch := 0,
    vram := vram, palette := palette, oam := oam }

/-- The status byte as a number (R13). -/
def statusNat (p : Flags) : Nat :=
  128 * flagNat p.n + 64 * flagNat p.v + 32 * flagNat p.u + 16 * flagNat p.b +
  8 * flagNat p.d + 4 * flagNat p.i + 2 * flagNat p.z + flagNat p.c

/-- An interrupt entry's state before its dots (R153): three stack bytes, I, PC, SP, cycles; all else as before. `u` has it. -/
def EntryEffects (s u : State) (ret : Word) (status : Byte) (target : Word) : Prop :=
  u = { s with
    ram := u.ram, sp := s.sp - 3, p := { s.p with i := true }, pc := target,
    cycles := s.cycles + 7, pending := u.pending } ∧
  ∀ k, u.ram.read k =
    if k = stackOffset s.sp then ret.extractLsb' 8 8
    else if k = stackOffset (s.sp - 1) then ret.extractLsb' 0 8
    else if k = stackOffset (s.sp - 2) then status
    else s.ram.read k

/-- The mnemonics that write C (R14). -/
def carryWriters : List Mnemonic :=
  [.ADC, .SBC, .CMP, .CPX, .CPY, .ASL, .LSR, .ROL, .ROR, .CLC, .SEC, .PLP, .RTI]

/-- The mnemonics that write Z and N (R14). -/
def zeroWriters : List Mnemonic :=
  [.LDA, .LDX, .LDY, .TAX, .TAY, .TXA, .TYA, .TSX, .PLA, .AND, .ORA, .EOR, .INC, .DEC, .INX, .INY,
   .DEX, .DEY, .CMP, .CPX, .CPY, .ASL, .LSR, .ROL, .ROR, .ADC, .SBC, .BIT, .PLP, .RTI]

/-- The mnemonics that write V (R14). -/
def overflowWriters : List Mnemonic := [.ADC, .SBC, .BIT, .CLV, .PLP, .RTI]

/-- The mnemonics of the documented read-only operations of R204. -/
def readOnlyMnemonics : List Mnemonic :=
  [.LDA, .LDX, .LDY, .EOR, .AND, .ORA, .ADC, .SBC, .CMP, .BIT, .CPX, .CPY]

/-- Bytes, base cycles and page cycles by mode, of the documented read-only operations (R204). -/
def readOnlyTiming : Mode → Option (Nat × Nat × Nat)
  | .imm => some (2, 2, 0)
  | .zp => some (2, 3, 0)
  | .zpx | .zpy => some (2, 4, 0)
  | .abs => some (3, 4, 0)
  | .absx | .absy => some (3, 4, 1)
  | .izx => some (2, 6, 0)
  | .izy => some (2, 5, 1)
  | _ => none

end Sys2Proof.Machine

open Sys2Proof Sys2Proof.Machine

/-! ### Encoding -/

/-- R60, R61, R62, R65: decoding the bytes of any instruction, with any operand and any bytes after them, gives the instruction
and the bytes after it. -/
def Obligations.DecodeInvertsEncode : Prop :=
  ∀ (i : Instr) (rest : List Byte), decode (encode i ++ rest) = .ok (i, rest)

/-- R60, R66: bytes that decode are the encoding of what they decode to, and the bytes left over. -/
def Obligations.EncodeInvertsDecode : Prop :=
  ∀ (bytes : List Byte) (i : Instr) (rest : List Byte),
    decode bytes = .ok (i, rest) → bytes = encode i ++ rest

/-- R66, R148: every opcode byte is defined; three bytes always decode. -/
def Obligations.EveryOpcodeDecodes : Prop :=
  ∀ (b0 b1 b2 : Byte) (rest : List Byte),
    ∃ i left, decode (b0 :: b1 :: b2 :: rest) = .ok (i, left) ∧ i.code.opcode = b0 ∧
      i.wellFormed = true

/-- R67: the example words of the assembly-syntax table decode to the instructions they stand for. -/
def Obligations.ExampleWordsDecode : Prop :=
  decode [0xE8] = .ok (.inx, []) ∧
  decode [0x0A] = .ok (.aslAcc, []) ∧
  decode [0xA9, 0x10] = .ok (.ldaImm 0x10, []) ∧
  decode [0xA5, 0x10] = .ok (.ldaZp 0x10, []) ∧
  decode [0xB5, 0x10] = .ok (.ldaZpx 0x10, []) ∧
  decode [0xB6, 0x10] = .ok (.ldxZpy 0x10, []) ∧
  decode [0xA1, 0x10] = .ok (.ldaIzx 0x10, []) ∧
  decode [0xB1, 0x10] = .ok (.ldaIzy 0x10, []) ∧
  decode [0xD0, 0xF9] = .ok (.bne 0xF9, []) ∧
  decode [0xAD, 0x34, 0x12] = .ok (.ldaAbs 0x1234, []) ∧
  decode [0xBD, 0x34, 0x12] = .ok (.ldaAbsx 0x1234, []) ∧
  decode [0xB9, 0x34, 0x12] = .ok (.ldaAbsy 0x1234, []) ∧
  decode [0x6C, 0x34, 0x12] = .ok (.jmpInd 0x1234, [])

/-- R65, R204: sizes 1 to 3, base cycles 2 to 8, page cycles 0 or 1 for every opcode, and the table by mode of the documented
read-only operations. -/
def Obligations.TableTimingByMode : Prop :=
  ∀ op : Byte,
    1 ≤ (lookup op).size ∧ (lookup op).size ≤ 3 ∧ 2 ≤ (lookup op).cycles ∧ (lookup op).cycles ≤ 8 ∧
    (lookup op).pageCycles ≤ 1 ∧
    ((lookup op).opClass = .documented → (lookup op).mnemonic ∈ readOnlyMnemonics →
      readOnlyTiming (lookup op).mode =
        some ((lookup op).size, (lookup op).cycles, (lookup op).pageCycles))

/-- R88 to R146: the documented instructions of a mnemonic are exactly those its rule's Encoding line lists, with the line's
mode, bytes and cycles; and every listed encoding is some instruction's. -/
def Obligations.EncodingLinesMatch : Prop :=
  (∀ (i : Instr) (m : Mnemonic), Encodes m i ↔ i.isDocumented m = true) ∧
  (∀ (m : Mnemonic) (e : RuleEncoding), e ∈ ruleEncodings m → ∃ i : Instr, encodingOf i = e)

/-! ### Addressing modes -/

/-- R71 to R79, R83: the modes without a pointer give their addresses and page crosses. That they read nothing here is the model's
split (log 8): the operand bytes that R74 to R79 and R83 have the resolver read are read by the step's fetch, and come with the
instruction. -/
def Obligations.DirectModesResolve : Prop :=
  ∀ (s : State) (b : Byte) (w : Word),
    resolve .imp s = ⟨0, false, s⟩ ∧
    resolve .acc s = ⟨0, false, s⟩ ∧
    resolve (.imm b) s = ⟨BitVec.ofNat 16 (s.pc.toNat + 1), false, s⟩ ∧
    resolve (.zp b) s = ⟨BitVec.ofNat 16 b.toNat, false, s⟩ ∧
    resolve (.zpx b) s = ⟨BitVec.ofNat 16 ((b.toNat + s.x.toNat) % 256), false, s⟩ ∧
    resolve (.zpy b) s = ⟨BitVec.ofNat 16 ((b.toNat + s.y.toNat) % 256), false, s⟩ ∧
    resolve (.abs w) s = ⟨w, false, s⟩ ∧
    resolve (.absx w) s =
      ⟨BitVec.ofNat 16 (w.toNat + s.x.toNat),
        decide (w.toNat / 256 ≠ (w.toNat + s.x.toNat) % 65536 / 256), s⟩ ∧
    resolve (.absy w) s =
      ⟨BitVec.ofNat 16 (w.toNat + s.y.toNat),
        decide (w.toNat / 256 ≠ (w.toNat + s.y.toNat) % 65536 / 256), s⟩ ∧
    resolve (.rel b) s = ⟨BitVec.ofInt 16 (s.pc.toNat + 2 + b.toInt), false, s⟩

/-- R80, R81: the two zero-page pointer modes read their pointer inside zero page, wrapping in it; X is added before the pointer
is read, Y after, and only the latter reports a page cross. -/
def Obligations.ZeroPagePointerModesResolve : Prop :=
  ∀ (s : State) (b : Byte),
    let p := (b.toNat + s.x.toNat) % 256
    let base := (s.ram.read b.toNat).toNat + 256 * (s.ram.read ((b.toNat + 1) % 256)).toNat
    resolve (.izx b) s =
      ⟨BitVec.ofNat 16 ((s.ram.read p).toNat + 256 * (s.ram.read ((p + 1) % 256)).toNat),
        false, s⟩ ∧
    resolve (.izy b) s =
      ⟨BitVec.ofNat 16 (base + s.y.toNat),
        decide (base / 256 ≠ (base + s.y.toNat) % 65536 / 256), s⟩

/-! ### Loads, stores, transfers, stack -/

/-- R88, R89, R90: a load, in every mode, answers the state in which the register holds the operand byte, Z and N are its, `PC`
is past the instruction and its cycles are counted; nothing else changes but what the read itself changes. That an immediate's
byte comes with the instruction, with no bus read here, is the model's reading (log 8). -/
def Obligations.LoadsPutOperandInRegister : Prop :=
  ∀ (i : Instr) (s : State),
    let m := operandRead i s
    let p := withZN m.1 s.p
    (Encodes .LDA i → exec i s =
      .next { m.2 with a := m.1, p := p, pc := nextPc i s, cycles := nextCycles i s }) ∧
    (Encodes .LDX i → exec i s =
      .next { m.2 with x := m.1, p := p, pc := nextPc i s, cycles := nextCycles i s }) ∧
    (Encodes .LDY i → exec i s =
      .next { m.2 with y := m.1, p := p, pc := nextPc i s, cycles := nextCycles i s }) ∧
    OnlyReadEffects s m.2

/-- R91, R92, R93: a store, in every mode and to every address, is one bus write of the register at the effective address, made
with `PC` past the instruction and its cycles counted; it reads nothing but its pointer. -/
def Obligations.StoresMakeOneBusWrite : Prop :=
  ∀ (i : Instr) (s : State) (d : Byte), storedByte i s = some d →
    exec i s = .next (memWrite (resolve i.operand s).addr d
      { s with pc := nextPc i s, cycles := nextCycles i s })

/-- R33, R35, R91, R92, R93: a store below 0x2000 stores the register in work RAM at the address modulo 2048 and changes no
flag, no register, no other byte and no device. -/
def Obligations.StoresToWorkRam : Prop :=
  ∀ (i : Instr) (s : State) (d : Byte), storedByte i s = some d → s.ram.wf = true →
    (resolve i.operand s).addr.toNat < 0x2000 →
    ∃ t, exec i s = .next t ∧
      t = { s with ram := t.ram, pc := nextPc i s, cycles := nextCycles i s } ∧
      StoredAt s.ram t.ram ((resolve i.operand s).addr.toNat % 2048) d

/-- R33, R34, R38: a bus read of work RAM, PRG-RAM or program ROM gives the stored byte and changes nothing: RAM at the address
modulo 2048, ROM at the offset modulo the program size. R35, R39: a bus write at 0x6000 to 0x7FFF stores in PRG-RAM, and one from
0x8000 on changes nothing. -/
def Obligations.PlainMemoryAccess : Prop :=
  ∀ (s : State) (a : Word) (d : Byte),
    (a.toNat < 0x2000 → memRead a s = (s.ram.read (a.toNat % 2048), s)) ∧
    (0x6000 ≤ a.toNat → a.toNat < 0x8000 →
      memRead a s = (s.cart.prgRam.read (a.toNat - 0x6000), s)) ∧
    (0x8000 ≤ a.toNat →
      memRead a s = (s.cart.prg.read ((a.toNat - 0x8000) % (s.cart.prgPages * 0x4000)), s)) ∧
    (0x6000 ≤ a.toNat → a.toNat < 0x8000 → s.cart.prgRam.wf = true →
      ∃ t, memWrite a d s = t ∧ t = { s with cart := { s.cart with prgRam := t.cart.prgRam } } ∧
        StoredAt s.cart.prgRam t.cart.prgRam (a.toNat - 0x6000) d) ∧
    (0x8000 ≤ a.toNat → memWrite a d s = s)

/-- R33, R34, R35: an undefined address reads as 0 and changes nothing, written or read, but the diagnostic log; 0x4014 reads
the same way. R171: a write-only PPU register reads as 0, and its address is logged. -/
def Obligations.InvalidAccessesAreLogged : Prop :=
  ∀ (s : State) (a : Word) (d : Byte),
    (0x4000 ≤ a.toNat → a.toNat < 0x6000 → (a.toNat < 0x4015 ∨ 0x4018 ≤ a.toNat) →
      memRead a s = (0, { s with diag := s.diag ++ [.invalidRead a] }) ∧
      (a.toNat ≠ 0x4014 → memWrite a d s = { s with diag := s.diag ++ [.invalidWrite a d] })) ∧
    (∀ sel ∈ [0, 1, 3, 5, 6], selectsPpu a sel →
      memRead a s =
        (0, { s with diag := s.diag ++ [.invalidRead (BitVec.ofNat 16 (0x2000 + sel))] }))

/-- R34, R35, R185: a read of APU status or a port is a draw that changes only the draw counter (the model's own field, log 5);
a write there changes no state. -/
def Obligations.ExternalPortsAreOracles : Prop :=
  ∀ (s : State) (d : Byte),
    memRead 0x4015 s = (Config.apuStatusRead s.draws, { s with draws := s.draws + 1 }) ∧
    memRead 0x4016 s = (Config.inputRead .port1 s.draws, { s with draws := s.draws + 1 }) ∧
    memRead 0x4017 s = (Config.inputRead .port2 s.draws, { s with draws := s.draws + 1 }) ∧
    memWrite 0x4015 d s = s ∧ memWrite 0x4016 d s = s ∧ memWrite 0x4017 d s = s

/-- R94 to R99: the transfers; TXS alone writes no flag. -/
def Obligations.TransfersCopyRegister : Prop :=
  ∀ s : State,
    let u := { s with pc := s.pc + 1, cycles := s.cycles + 2 }
    [encode .tax, encode .tay, encode .txa, encode .tya, encode .tsx, encode .txs] =
      [[0xAA], [0xA8], [0x8A], [0x98], [0xBA], [0x9A]] ∧
    exec .tax s = .next { u with x := s.a, p := withZN s.a s.p } ∧
    exec .tay s = .next { u with y := s.a, p := withZN s.a s.p } ∧
    exec .txa s = .next { u with a := s.x, p := withZN s.x s.p } ∧
    exec .tya s = .next { u with a := s.y, p := withZN s.y s.p } ∧
    exec .tsx s = .next { u with x := s.sp, p := withZN s.sp s.p } ∧
    exec .txs s = .next { u with sp := s.x }

/-- R48, R100, R102: PHA pushes A, PHP the status byte with bits 4 and 5 forced on; the byte lands at 0x0100 + SP, SP decrements
in 8 bits, no flag changes, nor any other byte. -/
def Obligations.PushesStoreOneByte : Prop :=
  ∀ s : State, s.ram.wf = true →
    ∀ i d, ((i = .pha ∧ d = s.a) ∨ (i = .php ∧ d = (Flags.toByte { s.p with b := true, u := true }))) →
    [encode .pha, encode .php] = [[0x48], [0x08]] ∧
    ∃ t, exec i s = .next t ∧
      t = { s with ram := t.ram, sp := s.sp - 1, pc := s.pc + 1, cycles := s.cycles + 3 } ∧
      StoredAt s.ram t.ram (stackOffset s.sp) d

/-- R48, R101, R103: PLA and PLP increment SP in 8 bits and take the byte there: A with Z and N, or all eight flags. -/
def Obligations.PullsTakeOneByte : Prop :=
  ∀ s : State,
    let v := s.ram.read (stackOffset (s.sp + 1))
    let u := { s with sp := s.sp + 1, pc := s.pc + 1, cycles := s.cycles + 4 }
    [encode .pla, encode .plp] = [[0x68], [0x28]] ∧
    exec .pla s = .next { u with a := v, p := withZN v s.p } ∧
    ∃ p, exec .plp s = .next { u with p := p } ∧ statusNat p = v.toNat

/-- R13: `toByte` puts the flags at their bits, and `fromByte` and `toByte` are inverse on every byte and record. -/
def Obligations.StatusByteRoundTrip : Prop :=
  (∀ p : Flags, p.toByte.toNat = statusNat p ∧ Flags.fromByte p.toByte = p) ∧
  (∀ b : Byte, (Flags.fromByte b).toByte = b)

/-! ### Arithmetic, logic, compares, increments -/

/-- R105: ADC in every mode; with D = 1, Z and N are kept. That V is set exactly when the signed sum lies outside -128 to 127 is the
sentence R105 marks as derived. An immediate's byte comes with the instruction, with no bus read here (log 8). -/
def Obligations.AdcAddsWithCarry : Prop :=
  ∀ (i : Instr) (s : State), Encodes .ADC i →
    let m := operandRead i s
    let sum := s.a.toNat + m.1.toNat + flagNat s.p.c
    let signed := s.a.toInt + m.1.toInt + flagNat s.p.c
    let res := BitVec.ofNat 8 sum
    let p := { s.p with c := decide (255 < sum), v := decide (signed < -128 ∨ 127 < signed) }
    exec i s = .next { m.2 with
      a := res, p := if s.p.d = true then p else withZN res p,
      pc := nextPc i s, cycles := nextCycles i s } ∧
    OnlyReadEffects s m.2

/-- R106: SBC in every documented mode. That V is set exactly when the signed difference lies outside -128 to 127 is the sentence
R106 marks as derived. An immediate's byte comes with the instruction, with no bus read here (log 8). -/
def Obligations.SbcSubtractsWithBorrow : Prop :=
  ∀ (i : Instr) (s : State), Encodes .SBC i →
    let m := operandRead i s
    let borrow := 1 - flagNat s.p.c
    let signed := s.a.toInt - m.1.toInt - borrow
    let res := BitVec.ofNat 8 (s.a.toNat + 256 - m.1.toNat - borrow)
    let p := { s.p with
      c := decide (m.1.toNat + borrow ≤ s.a.toNat), v := decide (signed < -128 ∨ 127 < signed) }
    exec i s = .next { m.2 with
      a := res, p := if s.p.d = true then p else withZN res p,
      pc := nextPc i s, cycles := nextCycles i s } ∧
    OnlyReadEffects s m.2

/-- R107, R108, R109, R110: AND, ORA, EOR into A with Z and N; BIT writes Z of the conjunction and V and N from the operand. An
immediate's byte comes with the instruction, with no bus read here (log 8). -/
def Obligations.LogicResults : Prop :=
  ∀ (i : Instr) (s : State),
    let m := operandRead i s
    let u := { m.2 with pc := nextPc i s, cycles := nextCycles i s }
    (Encodes .AND i →
      exec i s = .next { u with a := s.a &&& m.1, p := withZN (s.a &&& m.1) s.p }) ∧
    (Encodes .ORA i →
      exec i s = .next { u with a := s.a ||| m.1, p := withZN (s.a ||| m.1) s.p }) ∧
    (Encodes .EOR i →
      exec i s = .next { u with a := s.a ^^^ m.1, p := withZN (s.a ^^^ m.1) s.p }) ∧
    (Encodes .BIT i →
      exec i s = .next { u with p := { s.p with
        z := decide (s.a &&& m.1 = 0), v := decide (m.1.toNat / 64 % 2 = 1), n := decide (128 ≤ m.1.toNat) } }) ∧
    OnlyReadEffects s m.2

/-- R111, R112, R113: a compare writes C, Z and N and no register. An immediate's byte comes with the instruction, with no bus read
here (log 8). -/
def Obligations.ComparesSetFlags : Prop :=
  ∀ (i : Instr) (s : State) (r : Byte),
    ((Encodes .CMP i ∧ r = s.a) ∨ (Encodes .CPX i ∧ r = s.x) ∨
      (Encodes .CPY i ∧ r = s.y)) →
    let m := operandRead i s
    exec i s = .next { m.2 with
      p := { s.p with
        c := decide (m.1.toNat ≤ r.toNat), z := decide (r = m.1),
        n := decide (128 ≤ (r.toNat + 256 - m.1.toNat) % 256) },
      pc := nextPc i s, cycles := nextCycles i s } ∧
    OnlyReadEffects s m.2

/-- R116 to R119: INX, INY, DEX, DEY in 8 bits, with Z and N and no other flag. -/
def Obligations.RegisterStepsWrap : Prop :=
  ∀ s : State,
    let up (v : Byte) : Byte := BitVec.ofNat 8 (v.toNat + 1)
    let down (v : Byte) : Byte := BitVec.ofNat 8 (v.toNat + 255)
    let u := { s with pc := s.pc + 1, cycles := s.cycles + 2 }
    [encode .inx, encode .iny, encode .dex, encode .dey] = [[0xE8], [0xC8], [0xCA], [0x88]] ∧
    exec .inx s = .next { u with x := up s.x, p := withZN (up s.x) s.p } ∧
    exec .iny s = .next { u with y := up s.y, p := withZN (up s.y) s.p } ∧
    exec .dex s = .next { u with x := down s.x, p := withZN (down s.x) s.p } ∧
    exec .dey s = .next { u with y := down s.y, p := withZN (down s.y) s.p }

/-- R114, R115, R120 to R123: INC, DEC and the shifts. On memory, at every address: one bus read, then one bus write of the
result, made with `PC` and cycles already advanced, then the flags. In accumulator mode: A and the flags. -/
def Obligations.ModifiesReadThenWrite : Prop :=
  ∀ (i : Instr) (s : State) (mn : Mnemonic) (r : Byte) (p : Flags), Encodes mn i →
    let addr := (resolve i.operand s).addr
    let m := memRead addr s
    (i.operand ≠ .acc → modifiedByte mn m.1 s.p = some (r, p) →
      exec i s = .next { memWrite addr r { m.2 with pc := nextPc i s, cycles := nextCycles i s }
        with p := p } ∧
      OnlyReadEffects s m.2) ∧
    (i.operand = .acc → modifiedByte mn s.a s.p = some (r, p) →
      exec i s = .next { s with a := r, p := p, pc := s.pc + 1, cycles := s.cycles + 2 })

/-- R33, R114, R115, R120 to R123: a read-modify-write below 0x2000 stores the result in work RAM and changes nothing else but
the flags. -/
def Obligations.MemoryModifiesWorkRam : Prop :=
  ∀ (i : Instr) (s : State) (mn : Mnemonic) (r : Byte) (p : Flags), Encodes mn i →
    i.operand ≠ .acc → s.ram.wf = true →
    let addr := (resolve i.operand s).addr
    addr.toNat < 0x2000 →
    modifiedByte mn (s.ram.read (addr.toNat % 2048)) s.p = some (r, p) →
    ∃ t, exec i s = .next t ∧
      t = { s with ram := t.ram, p := p, pc := nextPc i s, cycles := nextCycles i s } ∧
      StoredAt s.ram t.ram (addr.toNat % 2048) r

/-! ### Control -/

/-- R124 to R132: a branch: not taken, 2 cycles; taken, 3, or 4 when the target's page differs from the next instruction's. -/
def Obligations.BranchesTakeTheirCondition : Prop :=
  ∀ (i : Instr) (s : State) (mn : Mnemonic) (b : Byte) (taken : Bool), Encodes mn i →
    i.operand = .rel b → branchTaken mn s.p = some taken →
    let next := s.pc + 2
    let target := BitVec.ofInt 16 (s.pc.toNat + 2 + b.toInt)
    exec i s = .next
      (if taken = true then
        { s with
          pc := target, cycles := s.cycles + if target.toNat / 256 = next.toNat / 256 then 3 else 4 }
      else { s with pc := next, cycles := s.cycles + 2 })

/-- R37, R82, R133: JMP; the indirect form reads the high byte of its pointer in the page of the low byte. -/
def Obligations.JumpsSetPc : Prop :=
  ∀ (s : State) (w : Word),
    let low := memRead w s
    let high := memRead ((w &&& 0xFF00) ||| ((w + 1) &&& 0x00FF)) low.2
    encode (.jmpAbs w) = [0x4C, w.extractLsb' 0 8, w.extractLsb' 8 8] ∧
    encode (.jmpInd w) = [0x6C, w.extractLsb' 0 8, w.extractLsb' 8 8] ∧
    exec (.jmpAbs w) s = .next { s with pc := w, cycles := s.cycles + 3 } ∧
    exec (.jmpInd w) s =
      .next { high.2 with pc := high.1 ++ low.1, cycles := s.cycles + 5 } ∧
    OnlyReadEffects s high.2

/-- R134: JSR pushes the address of its last byte, high byte first, and jumps. -/
def Obligations.JsrPushesReturnAddress : Prop :=
  ∀ (s : State) (w : Word), s.ram.wf = true →
    encode (.jsr w) = [0x20, w.extractLsb' 0 8, w.extractLsb' 8 8] ∧
    ∃ t, exec (.jsr w) s = .next t ∧
      t = { s with ram := t.ram, sp := s.sp - 2, pc := w, cycles := s.cycles + 6 } ∧
      ∀ k, t.ram.read k =
        if k = stackOffset s.sp then (s.pc + 2).extractLsb' 8 8
        else if k = stackOffset (s.sp - 1) then (s.pc + 2).extractLsb' 0 8
        else s.ram.read k

/-- R135: RTS pops the low byte, then the high byte, and adds one. -/
def Obligations.RtsReturns : Prop :=
  ∀ s : State,
    encode .rts = [0x60] ∧
    exec .rts s = .next { s with
      pc := (s.ram.read (stackOffset (s.sp + 2)) ++ s.ram.read (stackOffset (s.sp + 1))) + 1,
      sp := s.sp + 2, cycles := s.cycles + 6 }

/-- R134, R135 (the source's property): JSR followed by RTS returns to the instruction after the JSR, with SP as before. -/
def Obligations.JsrThenRtsReturns : Prop :=
  ∀ (s t : State) (w : Word), s.ram.wf = true → exec (.jsr w) s = .next t →
    ∃ u, exec .rts t = .next u ∧ u.pc = s.pc + 3 ∧ u.sp = s.sp

/-- R136: BRK, whatever I holds: pushes opAddr + 2 and the status byte with B forced to 1, sets I, and loads PC from 0xFFFE. -/
def Obligations.BrkTakesException : Prop :=
  ∀ s : State, s.ram.wf = true →
    encode .brk = [0x00] ∧
    ∃ t, exec .brk s = .next t ∧ t.pending = s.pending ∧
      EntryEffects s t (s.pc + 2) (Flags.toByte { s.p with b := true }) (vectorAt 0xFFFE 0xFFFF s)

/-- R137: RTI restores all eight flags, then PC with no increment, and SP rises by 3. -/
def Obligations.RtiRestores : Prop :=
  ∀ s : State,
    encode .rti = [0x40] ∧
    ∃ p, exec .rti s = .next { s with
        p := p,
        pc := s.ram.read (stackOffset (s.sp + 3)) ++ s.ram.read (stackOffset (s.sp + 2)),
        sp := s.sp + 3, cycles := s.cycles + 6 } ∧
      statusNat p = (s.ram.read (stackOffset (s.sp + 1))).toNat

/-- R136, R137, C1: RTI after BRK returns to opAddr + 2 with the flags of before the BRK, but B = 1. -/
def Obligations.BrkThenRtiReturns : Prop :=
  ∀ s t : State, s.ram.wf = true → exec .brk s = .next t →
    ∃ u, exec .rti t = .next u ∧ u.pc = s.pc + 2 ∧ u.sp = s.sp ∧
      u.p = { s.p with b := true } ∧ u.a = s.a ∧ u.x = s.x ∧ u.y = s.y

/-- R139 to R146: each flag instruction writes its flag alone; NOP writes nothing. -/
def Obligations.FlagInstructions : Prop :=
  ∀ s : State,
    let u := { s with pc := s.pc + 1, cycles := s.cycles + 2 }
    [encode .clc, encode .sec, encode .cli, encode .sei, encode .cld, encode .sed, encode .clv, encode .nop] =
      [[0x18], [0x38], [0x58], [0x78], [0xD8], [0xF8], [0xB8], [0xEA]] ∧
    exec .clc s = .next { u with p := { s.p with c := false } } ∧
    exec .sec s = .next { u with p := { s.p with c := true } } ∧
    exec .cli s = .next { u with p := { s.p with i := false } } ∧
    exec .sei s = .next { u with p := { s.p with i := true } } ∧
    exec .cld s = .next { u with p := { s.p with d := false } } ∧
    exec .sed s = .next { u with p := { s.p with d := true } } ∧
    exec .clv s = .next { u with p := { s.p with v := false } } ∧
    exec .nop s = .next u

/-- R147: every illegal opcode: PC and cycles advance as for any row, no data access is made, and the policy decides: the sticky
fault, or a diagnostic event. -/
def Obligations.IllegalOpcodesFollowPolicy : Prop :=
  ∀ (i : Instr) (s : State), i.isIllegal = true →
    let u := { s with pc := nextPc i s, cycles := nextCycles i s }
    (s.cfg.illegalPolicy = .fault → exec i s =
      .next { u with fault := some (s.fault.getD (.illegalOpcode i.code.opcode s.pc)) }) ∧
    (s.cfg.illegalPolicy = .nop → exec i s =
      .next { u with diag := s.diag ++ [.illegalOpcodeNop i.code.opcode s.pc] })

/-! ### The step -/

/-- R69, R186: when the bytes at PC are plain memory and decode to an instruction, no fault is recorded and no interrupt is
serviceable after the IRQ sample, the step is that instruction's meaning, then three dots for each cycle it took. The only
changes before the meaning are the used IRQ sample, the slot it may fill, and a masked request that `drop` discards (R152). -/
def Obligations.StepRunsDecodedInstruction : Prop :=
  ∀ (s : State) (i : Instr) (rest : List Byte),
    isPlain s.pc = true → isPlain (s.pc + 1) = true → isPlain (s.pc + 2) = true →
    decode [(memRead s.pc s).1, (memRead (s.pc + 1) s).1, (memRead (s.pc + 2) s).1] = .ok (i, rest) →
    s.fault = none → serviceable (sampleIrq s).pending s.p.i = none →
    let u := dropMasked (sampleIrq s)
    step s = runDots s.cycles (exec i u) ∧
    u = { s with pending := u.pending, irqInput := s.irqInput.tail }

/-- R17, R186: a state with a recorded fault takes no step. -/
def Obligations.RecordedFaultStopsTheMachine : Prop :=
  ∀ (s : State) (r : FaultRecord), s.fault = some r → step s = .fault (.stuck r)

/-- R151, R152, R153: a step whose slot holds an NMI after the IRQ sample services it whatever I holds, an IRQ when I is clear, be it
pending before or sampled by this step: PC and the status byte with B forced to 0 are pushed, I is set, PC comes from the vector,
the slot empties, 7 cycles and 21 dots pass. -/
def Obligations.InterruptsAreServiced : Prop :=
  ∀ (s : State) (k : Interrupt), s.fault = none → (sampleIrq s).pending = some k → s.ram.wf = true →
    (k = .irq → s.p.i = false) →
    ∃ u, step s = .next (ppuRun 21 u) ∧ u.pending = none ∧
      EntryEffects { s with irqInput := s.irqInput.tail } u s.pc
        (Flags.toByte { s.p with b := false })
        (match k with
          | .nmi => vectorAt 0xFFFA 0xFFFB s
          | .irq => vectorAt 0xFFFE 0xFFFF s)

/-- R151, R152, R154: with I set, a pending IRQ is not serviced: `retain` keeps it in the slot, `drop` empties the slot, before the
instruction runs; a requested IRQ enters only an empty slot. -/
def Obligations.MaskedRequestsFollowPolicy : Prop :=
  ∀ s : State,
    (s.p.i = true → s.pending = some .irq →
      serviceable s.pending s.p.i = none ∧
      (s.cfg.irqMaskedPolicy = .retain → dropMasked s = s) ∧
      (s.cfg.irqMaskedPolicy = .drop → dropMasked s = { s with pending := none })) ∧
    (∀ k, s.pending = some k → (sampleIrq s).pending = some k) ∧
    (s.pending = none →
      (sampleIrq s).pending = if s.irqInput.head? = some true then some .irq else none)

/-! ### The PPU registers -/

/-- R164: a PPUSTATUS read returns the three flags over the low five bits of the register latch, then clears `vblank` and the
write toggle, and changes nothing else but the edge detector's memory. -/
def Obligations.StatusReadClearsVblank : Prop :=
  ∀ (s : State) (a : Word), selectsPpu a 2 →
    (memRead a s).1.toNat =
      128 * flagNat s.ppu.nmiOccurred + 64 * flagNat s.ppu.sprite0Hit +
      32 * flagNat s.ppu.spriteOverflow + s.ppu.regLatch.toNat % 32 ∧
    (memRead a s).2 =
      { s with ppu := { s.ppu with nmiOccurred := false, w := false, nmiPrevious := false } }

/-- R162, R172: a PPUCTRL write sets the latch, bits 11:10 of `t` and the six fields; the NMI delay is armed exactly on a rising
edge of `nmiOutput & nmiOccurred`, and the slot is not written. -/
def Obligations.ControlWriteSetsFieldsAndArms : Prop :=
  ∀ (s : State) (a : Word) (d : Byte), selectsPpu a 0 →
    let bit (n : Nat) : Bool := decide (d.toNat / 2 ^ n % 2 = 1)
    let nmi := bit 7 && s.ppu.nmiOccurred
    ∃ t, memWrite a d s = { s with ppu := { s.ppu with
        regLatch := d, t := t,
        ctrl := ⟨bit 2, bit 3, bit 4, bit 5, bit 6, bit 7⟩,
        nmiPrevious := nmi,
        nmiDelay := if nmi = true ∧ s.ppu.nmiPrevious = false then s.cfg.nmiDelay
                    else s.ppu.nmiDelay } } ∧
      t.toNat = s.ppu.t.toNat % 1024 + 1024 * (d.toNat % 4) + 4096 * (s.ppu.t.toNat / 4096)

/-- R167: a PPUSCROLL write with the toggle clear sets coarse X and fine x and the toggle; with the toggle set, coarse Y and
fine Y, and clears it. The rest of `t` stays. -/
def Obligations.ScrollWritesSetT : Prop :=
  ∀ (s : State) (a : Word) (d : Byte), selectsPpu a 5 →
    ∃ t : BitVec 15,
      (s.ppu.w = false →
        memWrite a d s = { s with ppu := { s.ppu with
          regLatch := d, t := t, x := BitVec.ofNat 3 (d.toNat % 8), w := true } } ∧
        t.toNat = d.toNat / 8 + 32 * (s.ppu.t.toNat / 32)) ∧
      (s.ppu.w = true →
        memWrite a d s = { s with ppu := { s.ppu with regLatch := d, t := t, w := false } } ∧
        t.toNat = s.ppu.t.toNat % 32 + 32 * (d.toNat / 8) + 1024 * (s.ppu.t.toNat / 1024 % 4) +
          4096 * (d.toNat % 8))

/-- R168: a PPUADDR write with the toggle clear sets bits 13:8 of `t`, clears bit 14, and sets the toggle; with the toggle set,
bits 7:0, copies `t` to `v`, and clears it. -/
def Obligations.AddressWritesSetTAndV : Prop :=
  ∀ (s : State) (a : Word) (d : Byte), selectsPpu a 6 →
    let high := BitVec.ofNat 15 (s.ppu.t.toNat % 256 + 256 * (d.toNat % 64))
    let low := BitVec.ofNat 15 (256 * (s.ppu.t.toNat / 256) + d.toNat)
    (s.ppu.w = false → memWrite a d s = { s with ppu := { s.ppu with regLatch := d, t := high, w := true } }) ∧
    (s.ppu.w = true → memWrite a d s = { s with ppu := { s.ppu with
      regLatch := d, t := low, v := low, w := false } })

/-- R161, R163, R165, R171: the other plain register writes: the latch, and the mask fields, `oamAddr`, or (PPUSTATUS) nothing. -/
def Obligations.PlainPpuRegisterWrites : Prop :=
  ∀ (s : State) (a : Word) (d : Byte),
    let bit (n : Nat) : Bool := decide (d.toNat / 2 ^ n % 2 = 1)
    let p := { s.ppu with regLatch := d }
    (selectsPpu a 1 → memWrite a d s = { s with ppu := { p with
      mask := ⟨bit 0, bit 1, bit 2, bit 3, bit 4, bit 5, bit 6, bit 7⟩ } }) ∧
    (selectsPpu a 2 → memWrite a d s = { s with ppu := p }) ∧
    (selectsPpu a 3 → memWrite a d s = { s with ppu := { p with oamAddr := d } })

/-- R166: OAMDATA: a read gives the byte at `oamAddr` and changes nothing; a write stores there and steps `oamAddr` in 8 bits. -/
def Obligations.OamDataAccess : Prop :=
  ∀ (s : State) (a : Word) (d : Byte), selectsPpu a 4 → s.ppu.oam.wf = true →
    memRead a s = (s.ppu.oam.read s.ppu.oamAddr.toNat, s) ∧
    ∃ m, memWrite a d s = { s with ppu := { s.ppu with
        regLatch := d, oam := m, oamAddr := BitVec.ofNat 8 (s.ppu.oamAddr.toNat + 1) } } ∧
      StoredAt s.ppu.oam m s.ppu.oamAddr.toNat d

/-- R169, R40, R43 to R47: a PPUDATA read: below the palette the buffered byte, the buffer taking the byte at `v` (of character
memory or a nametable); in the palette the palette's entry itself, the buffer taking the nametable byte 0x1000 below; then `v`
steps by 1 or 32 in 15 bits. -/
def Obligations.DataReadIsBuffered : Prop :=
  ∀ (s : State) (a : Word), selectsPpu a 7 →
    let addr := s.ppu.v.toNat % 0x4000
    let step := if s.ppu.ctrl.incr32 = true then 32 else 1
    let after (buffer : Byte) := { s with ppu := { s.ppu with
      readBuffer := buffer, v := BitVec.ofNat 15 (s.ppu.v.toNat + step) } }
    (addr < 0x3F00 → memRead a s =
      (s.ppu.readBuffer, after (ppuByte s addr))) ∧
    (0x3F00 ≤ addr → memRead a s =
      (s.ppu.palette.read (paletteEntry addr),
        after (s.ppu.vram.read (nametableIndex s.cart.mirror (addr - 0x1000)))))

/-- R40, R42, R43, R44, R45, R46, R47: a PPU read, whose address counts modulo 0x4000: below 0x2000 the byte of character memory at
the address; in the nametable window the byte of the quadrant of `vram` that the mirroring mode gives, and nothing above 2 KB in
modes 0 to 3; from 0x3F00 on the palette's entry, with 16, 20, 24, 28 collapsed. -/
def Obligations.NametableMirroring : Prop :=
  ∀ (s : State) (a : Word),
    let addr := a.toNat % 0x4000
    let index := nametableIndex s.cart.mirror addr
    (addr < 0x2000 → ppuRead s a = s.cart.chr.read addr) ∧
    (0x2000 ≤ addr → addr < 0x3F00 →
      ppuRead s a = s.ppu.vram.read index ∧ (s.cart.mirror ≠ .fourScreen → index < 2048)) ∧
    (0x3F00 ≤ addr → ppuRead s a = s.ppu.palette.read (paletteEntry addr))

/-- R40, R43, R44, R46, R170: a PPUDATA write stores at `v` at once: character RAM (not ROM), a nametable byte through the
mirroring, or a palette entry with 16, 20, 24, 28 collapsed; then `v` steps, and the read buffer stays. -/
def Obligations.DataWriteStoresAtOnce : Prop :=
  ∀ (s : State) (a : Word) (d : Byte), selectsPpu a 7 →
    s.ppu.vram.wf = true → s.ppu.palette.wf = true → s.cart.chr.wf = true →
    let addr := s.ppu.v.toNat % 0x4000
    let step := if s.ppu.ctrl.incr32 = true then 32 else 1
    let entry := if addr % 4 = 0 ∧ 16 ≤ addr % 32 then addr % 32 - 16 else addr % 32
    let index := 0x400 * physicalQuadrant s.cart.mirror (addr / 0x400 % 4) + addr % 0x400
    ∃ t, memWrite a d s = t ∧
      t = { s with
        ppu := { s.ppu with
          regLatch := d, v := BitVec.ofNat 15 (s.ppu.v.toNat + step),
          vram := t.ppu.vram, palette := t.ppu.palette },
        cart := { s.cart with chr := t.cart.chr } } ∧
      (if addr < 0x2000 ∧ s.cart.chrPages = 0 then StoredAt s.cart.chr t.cart.chr addr d
        else t.cart.chr = s.cart.chr) ∧
      (if 0x2000 ≤ addr ∧ addr < 0x3F00 then StoredAt s.ppu.vram t.ppu.vram index d
        else t.ppu.vram = s.ppu.vram) ∧
      (if 0x3F00 ≤ addr then StoredAt s.ppu.palette t.ppu.palette entry d
        else t.ppu.palette = s.ppu.palette)

/-- R184: OAM DMA, from any page: 513 cycles pass, 514 when the counter was odd; beside `oam` it changes only what its bus reads
change, and `oamAddr` stays. From a page of plain memory the 256 bytes go to `oam` from `oamAddr` on, wrapping, and nothing else
changes. -/
def Obligations.OamDmaCopiesPage : Prop :=
  ∀ (s : State) (d : Byte), s.ppu.oam.wf = true →
    ∃ t, memWrite 0x4014 d s = t ∧
      t = { s with
        ppu := t.ppu, diag := t.diag, draws := t.draws,
        cycles := s.cycles + 513 + s.cycles % 2 } ∧
      t.ppu.vram = s.ppu.vram ∧ t.ppu.palette = s.ppu.palette ∧ t.ppu.oamAddr = s.ppu.oamAddr ∧
      ((d.toNat < 0x20 ∨ 0x60 ≤ d.toNat) →
        t = { s with
          ppu := { s.ppu with oam := t.ppu.oam },
          cycles := s.cycles + 513 + s.cycles % 2 } ∧
        ∀ k, k < 256 → t.ppu.oam.read ((s.ppu.oamAddr.toNat + k) % 256) =
          (memRead (BitVec.ofNat 16 (256 * d.toNat + k)) s).1)

/-! ### The sequencer -/

/-- R175: from dot 0 of line 0, a frame of 89342 dots, or of 89341 when it is odd and the parameter does not ask for a rendering
that is off, leads to dot 0 of line 0 of the next frame. -/
def Obligations.FramesHaveTheirDots : Prop :=
  ∀ s : State, s.ppu.dot = 0 → s.ppu.scanline = 0 →
    let skips := s.ppu.oddFrame = true ∧ (s.cfg.oddSkipRequiresRendering = true →
      (s.ppu.mask.showBg || s.ppu.mask.showSprites) = true)
    let q := (ppuRun (if skips then 89341 else 89342) s).ppu
    q.dot = 0 ∧ q.scanline = 0 ∧ q.frame = s.ppu.frame + 1 ∧ q.oddFrame = !s.ppu.oddFrame

/-- R172, R173, R176, R182: over one dot, `vblank` is set exactly on arriving at (241, 1) and cleared exactly on arriving at
(261, 1); there and only there the edge detector takes the new `nmiOutput & nmiOccurred`, whose rising edge arms the delay, which
else counts down. The sprite flags are cleared on arriving at (261, 1) and never else; they are set only on arriving at dots 1 to
256 of lines 0 to 239 with rendering enabled (by the draw of R182, log 5). -/
def Obligations.VblankAndSpriteFlagEvents : Prop :=
  ∀ s : State,
    let p := s.ppu
    let q := (ppuStep s).ppu
    let vblankStarts := q.scanline = 241 ∧ q.dot = 1
    let vblankEnds := q.scanline = 261 ∧ q.dot = 1
    let nmi := p.ctrl.nmiOutput && q.nmiOccurred
    q.nmiOccurred = (if vblankStarts then true else if vblankEnds then false else p.nmiOccurred) ∧
    q.nmiPrevious = (if vblankStarts ∨ vblankEnds then nmi else p.nmiPrevious) ∧
    q.nmiDelay =
      (if (vblankStarts ∨ vblankEnds) ∧ nmi = true ∧ p.nmiPrevious = false then s.cfg.nmiDelay
        else p.nmiDelay - 1) ∧
    (vblankEnds → q.sprite0Hit = false ∧ q.spriteOverflow = false) ∧
    (¬ vblankEnds →
      (p.sprite0Hit = true → q.sprite0Hit = true) ∧ (p.spriteOverflow = true → q.spriteOverflow = true)) ∧
    ((q.sprite0Hit ≠ p.sprite0Hit ∨ q.spriteOverflow ≠ p.spriteOverflow) →
      vblankEnds ∨
      (q.scanline ≤ 239 ∧ 1 ≤ q.dot ∧ q.dot ≤ 256 ∧
        (p.mask.showBg || p.mask.showSprites) = true))

/-- R172, R173, R200: a dot puts the NMI into the slot exactly when it ends the count with NMI output on and `vblank` set, whatever
the slot holds, and leaves the slot else. So with NMI output off no number of dots changes the slot. And wherever a count of n dots
starts in vertical blank and ends by the dot that reaches (261, 1), on one line or across lines: for fewer than n dots the slot
keeps what it holds; after n it holds the NMI when NMI output is on and `vblank` set, else still what it held. -/
def Obligations.NmiDeliveredAfterDelay : Prop :=
  ∀ s : State,
    let p := s.ppu
    let position := 341 * p.scanline + p.dot
    let holds := p.ctrl.nmiOutput = true ∧ p.nmiOccurred = true
    ((ppuStep s).pending = if p.nmiDelay = 1 ∧ holds then some .nmi else s.pending) ∧
    (p.ctrl.nmiOutput = false → ∀ n, (ppuRun n s).pending = s.pending) ∧
    (p.dot ≤ 340 → 341 * 241 + 1 ≤ position → position + p.nmiDelay ≤ 341 * 261 + 1 → 0 < p.nmiDelay →
      (∀ n, n < p.nmiDelay → (ppuRun n s).pending = s.pending) ∧
      (ppuRun p.nmiDelay s).pending = if holds then some .nmi else s.pending)

/-- R177 to R181: with rendering disabled, no number of dots changes `v`, `t`, fine x or the fetch latches. -/
def Obligations.NoRenderingKeepsScroll : Prop :=
  ∀ (n : Nat) (s : State), s.ppu.mask.showBg = false → s.ppu.mask.showSprites = false →
    let q := (ppuRun n s).ppu
    q.v = s.ppu.v ∧ q.t = s.ppu.t ∧ q.x = s.ppu.x ∧ q.ntLatch = s.ppu.ntLatch ∧
    q.atLatch = s.ppu.atLatch ∧ q.loLatch = s.ppu.loLatch ∧ q.hiLatch = s.ppu.hiLatch

/-- R177 to R181: with rendering enabled on a rendering line, on arriving at a store dot but 256 the coarse X steps, switching the
horizontal nametable when it wraps; at dot 256 also the fine Y steps, carrying into the coarse Y, which wraps after 29 with a
switch of the vertical nametable and after 31 without; at dot 257 the horizontal, at dots 280 to 304 of line 261 the vertical
scroll bits come from `t`; at every other dot of any line `v` stays. At dots 1, 3, 5, 7 modulo 8 of the fetch windows on a
rendering line the nametable, attribute, low and high pattern latch takes the PPU byte at its fetch address; else each stays. -/
def Obligations.ScrollPropagation : Prop :=
  ∀ s : State, (s.ppu.mask.showBg || s.ppu.mask.showSprites) = true →
    let v := s.ppu.v.toNat
    let q := (ppuStep s).ppu
    let xSteps : Prop := q.v.toNat % 32 = (v + 1) % 32 ∧
      q.v.toNat / 1024 % 2 = (v / 1024 + if v % 32 = 31 then 1 else 0) % 2
    let y := v / 32 % 32
    let carry := v / 4096 = 7
    let onLine := q.scanline ≤ 239 ∨ q.scanline = 261
    let inWindow := 1 ≤ q.dot ∧ q.dot ≤ 256 ∨ 321 ≤ q.dot ∧ q.dot ≤ 336
    let pattern := 0x1000 * flagNat s.ppu.ctrl.bgTable + 16 * s.ppu.ntLatch.toNat + v / 4096
    (onLine → q.dot % 8 = 0 → inWindow → q.dot ≠ 256 →
      xSteps ∧ q.v.toNat / 32 % 32 = y ∧ q.v.toNat / 2048 = v / 2048) ∧
    (onLine → q.dot = 256 → xSteps ∧
      q.v.toNat / 4096 = (v / 4096 + 1) % 8 ∧
      q.v.toNat / 32 % 32 = (if carry then (if y = 29 then 0 else (y + 1) % 32) else y) ∧
      q.v.toNat / 2048 % 2 = (v / 2048 + if carry ∧ y = 29 then 1 else 0) % 2) ∧
    (onLine → q.dot = 257 → q.v = (s.ppu.v &&& 0x7BE0) ||| (s.ppu.t &&& 0x041F)) ∧
    (q.scanline = 261 → 280 ≤ q.dot → q.dot ≤ 304 →
      q.v = (s.ppu.v &&& 0x041F) ||| (s.ppu.t &&& 0x7BE0)) ∧
    (¬ (onLine ∧ q.dot % 8 = 0 ∧ inWindow) → ¬ (onLine ∧ q.dot = 257) →
      ¬ (q.scanline = 261 ∧ 280 ≤ q.dot ∧ q.dot ≤ 304) → q.v = s.ppu.v) ∧
    q.ntLatch = (if onLine ∧ inWindow ∧ q.dot % 8 = 1 then ppuByte s (0x2000 + v % 0x1000)
      else s.ppu.ntLatch) ∧
    q.atLatch = (if onLine ∧ inWindow ∧ q.dot % 8 = 3 then
        ppuByte s (0x23C0 + 0x400 * (v / 0x400 % 4) + 8 * (v / 0x80 % 8) + v / 4 % 8)
      else s.ppu.atLatch) ∧
    q.loLatch = (if onLine ∧ inWindow ∧ q.dot % 8 = 5 then ppuByte s pattern else s.ppu.loLatch) ∧
    q.hiLatch = (if onLine ∧ inWindow ∧ q.dot % 8 = 7 then ppuByte s (pattern + 8) else s.ppu.hiLatch)

/-! ### Whole-machine rules -/

/-- R14: whatever instruction runs, a flag changes only if the instruction is a documented one of the flag's writers, and Z and N
by ADC and SBC only when D = 0. -/
def Obligations.OnlyListedInstructionsWriteFlags : Prop :=
  ∀ (i : Instr) (s t : State), exec i s = .next t →
    let by' (l : List Mnemonic) : Prop := i.isIllegal = false ∧ i.mnemonic ∈ l
    let binary : Prop := i.mnemonic ∈ [.ADC, .SBC] → s.p.d = false
    (t.p.c = s.p.c ∨ by' carryWriters) ∧
    (t.p.z = s.p.z ∨ by' zeroWriters ∧ binary) ∧
    (t.p.i = s.p.i ∨ by' [.SEI, .CLI, .PLP, .RTI, .BRK]) ∧
    (t.p.d = s.p.d ∨ by' [.SED, .CLD, .PLP, .RTI]) ∧
    (t.p.b = s.p.b ∨ by' [.PLP, .RTI]) ∧
    (t.p.u = s.p.u ∨ by' [.PLP, .RTI]) ∧
    (t.p.v = s.p.v ∨ by' overflowWriters) ∧
    (t.p.n = s.p.n ∨ by' zeroWriters ∧ binary)

/-- R28, R29, R39, R40: no step changes program ROM, the page counts, the mirroring mode or a parameter, nor character memory when
it is ROM. -/
def Obligations.StepKeepsCartridgeRom : Prop :=
  ∀ s t : State, step s = .next t →
    t.cart.prg = s.cart.prg ∧ t.cart.prgPages = s.cart.prgPages ∧
    t.cart.chrPages = s.cart.chrPages ∧ t.cart.mirror = s.cart.mirror ∧ t.cfg = s.cfg ∧
    (s.cart.chrPages ≠ 0 → t.cart.chr = s.cart.chr)

/-- R5, R22, R23, R28, R30: every step keeps the invariant: every memory canonical and within its size (program ROM and character
memory too), the bounded parameters within their bounds, counters in range, the parity of the frame counter, the edge detector's
memory equal to its input and the delay at most `NMI_DELAY`. -/
def Obligations.StepKeepsInvariant : Prop :=
  ∀ s t : State, s.Inv → step s = .next t → t.Inv

/-- R31, R157, R192, R194, R206, K11, K12: a record whose mapper is not the baseline is refused before the run: no console, no launch,
no run of any moves; so is one without a program page (log 14). Any other record, with any parameters and draw, gives a console that
holds the "power-on" column of R31, with the record's ROM bytes, page counts and mirroring; the launch changes SP to `RESET_SP` and
PC to the reset vector's contents and nothing else, and every run of moves answers. The reset state is one such launch, of the draw
and the record that the model names (log 1, log 2, log 3), and it and every launch of legal parameters and canonical draws meet the
invariant. -/
def Obligations.ResetMeetsInvariant : Prop :=
  (∀ (cfg : Config) (draw : PowerOnDraw) (r : CartridgeRecord) (moves : List HostMove),
    let refuses (e : Refusal) : Prop :=
      powerOn cfg draw r = .refused e ∧ launch cfg draw r = .refused e ∧
      hostRun cfg draw r moves = .refused e
    let size := r.programRomPages * 0x4000
    let vectorByte (a : Nat) := imageByte r.programRom size ((a - 0x8000) % size)
    (∀ id, r.mapperType = .variant id → refuses (.unsupportedMapper id)) ∧
    (r.mapperType = .baseline → r.programRomPages = 0 → refuses .noProgramRom) ∧
    (r.mapperType = .baseline → 1 ≤ r.programRomPages →
      ∃ c l, powerOn cfg draw r = .next c ∧ launch cfg draw r = .next l ∧
        (∃ t, hostRun cfg draw r moves = .next t) ∧
        c = { a := draw.a, x := draw.x, y := draw.y, sp := draw.sp, pc := draw.pc, p := draw.p,
              cycles := 0, pending := none, fault := none, diag := [],
              ppu := zeroPpu draw.vram draw.palette draw.oam, ram := draw.ram,
              cart := { prg := c.cart.prg, chr := c.cart.chr, prgRam := draw.prgRam,
                        prgPages := r.programRomPages, chrPages := r.characterRomPages, mirror := r.mirrorType },
              cfg := cfg, irqInput := draw.irqInput, draws := 0 } ∧
        (∀ k, c.cart.prg.read k = imageByte r.programRom size k) ∧
        (r.characterRomPages = 0 → c.cart.chr = draw.chrRam) ∧
        (r.characterRomPages ≠ 0 →
          ∀ k, c.cart.chr.read k = imageByte r.characterRom (r.characterRomPages * 0x2000) k) ∧
        l = { c with sp := cfg.resetSp, pc := vectorByte 0xFFFD ++ vectorByte 0xFFFC } ∧
        (draw.memoriesOk = true → 1 ≤ cfg.nmiDelay → 1 ≤ cfg.frameCycles → l.Inv))) ∧
  launch Config.default PowerOnDraw.named CartridgeRecord.blank = .next State.reset ∧
  State.reset.sp = 0xFC ∧ State.reset.pc = vectorAt 0xFFFC 0xFFFD State.reset ∧
  State.reset.ppu = zeroPpu [] [] [] ∧ State.reset.cycles = 0 ∧ State.reset.pending = none ∧
  State.reset.fault = none ∧ State.reset.diag = [] ∧ State.reset.Inv

/-- R193, R31: the reset operation: SP and PC from the parameter and the vector, the slot empty, every PPU item 0 with the
PPU's memories kept, and every other element as it was. -/
def Obligations.ConsoleResetEffects : Prop :=
  ∀ s : State,
    consoleReset s = { s with
      sp := s.cfg.resetSp, pc := vectorAt 0xFFFC 0xFFFD s, pending := none,
      ppu := {
        v := 0, t := 0, x := 0, w := false,
        ctrl := ⟨false, false, false, false, false, false⟩,
        mask := ⟨false, false, false, false, false, false, false, false⟩,
        nmiOccurred := false, sprite0Hit := false, spriteOverflow := false, nmiPrevious := false,
        nmiDelay := 0, dot := 0, scanline := 0, frame := 0, oddFrame := false,
        oamAddr := 0, readBuffer := 0, regLatch := 0,
        ntLatch := 0, atLatch := 0, loLatch := 0, hiLatch := 0,
        vram := s.ppu.vram, palette := s.ppu.palette, oam := s.ppu.oam } }

/-- R187: a frame step that answers has advanced the cycle counter by at least `FRAME_CYCLES`, or has recorded a fault. -/
def Obligations.FrameStepReachesQuota : Prop :=
  ∀ s t : State, frameStep s = .next t →
    s.cycles + s.cfg.frameCycles ≤ t.cycles ∨ t.fault ≠ none
end

