-- ==== Sys2Proof/Laws/Memory.lean ====
section
/-! SUPPORT. The laws of a byte memory: what a read gives after a write, that a write keeps the canonical form and the range, that
a list of bytes fills a canonical memory, and that canonical memories with the same bytes are the same list. -/

namespace Sys2Proof.Machine

@[simp] theorem Memory.read_nil (a : Nat) : Memory.read [] a = Memory.unlisted := rfl

theorem Memory.read_cell_append (a : Nat) (d : Byte) (m : Memory) (k : Nat) :
    Memory.read (Memory.cell a d ++ m) k =
      if k = a ∧ d ≠ Memory.unlisted then d else Memory.read m k := by
  unfold Memory.cell
  by_cases hd : d = Memory.unlisted
  · simp [hd]
  · by_cases hk : k = a
    · simp [hd, hk, Memory.read]
    · simp [hd, hk, Memory.read, Ne.symm hk]

/-- In canonical form from `n` on, an offset below `n` is not listed. -/
theorem Memory.read_below {n : Nat} {m : Memory} (h : Memory.wfFrom n m = true) {a : Nat}
    (ha : a < n) : m.read a = Memory.unlisted := by
  induction m generalizing n with
  | nil => rfl
  | cons c m ih =>
    obtain ⟨k, b⟩ := c
    simp only [Memory.wfFrom, Bool.and_eq_true, decide_eq_true_eq] at h
    have hk : ¬ k = a := by omega
    simp only [Memory.read, hk, if_false]
    exact ih h.2 (by omega)

theorem Memory.read_write_from {n : Nat} {m : Memory} (h : Memory.wfFrom n m = true) (a : Nat)
    (d : Byte) (k : Nat) : (m.write a d).read k = if k = a then d else m.read k := by
  induction m generalizing n with
  | nil =>
    have h := Memory.read_cell_append a d [] k
    rw [List.append_nil] at h
    simp only [Memory.write, h, Memory.read_nil]
    by_cases hk : k = a <;> by_cases hd : d = Memory.unlisted <;> simp [hk, hd]
  | cons c m ih =>
    obtain ⟨j, b⟩ := c
    simp only [Memory.wfFrom, Bool.and_eq_true, decide_eq_true_eq] at h
    have later : ∀ i, i ≤ j → Memory.read m i = Memory.unlisted := fun i hi =>
      Memory.read_below h.2 (Nat.lt_succ_of_le hi)
    simp only [Memory.write]
    by_cases h1 : j < a
    · have hja : j ≠ a := by omega
      by_cases hkj : j = k
      · subst hkj; simp [h1, Memory.read, hja]
      · simp [h1, Memory.read, hkj, ih h.2]
    · by_cases h2 : j = a
      · subst h2
        rw [if_neg h1, if_pos rfl, Memory.read_cell_append]
        by_cases hkj : k = j
        · subst hkj
          by_cases hd : d = Memory.unlisted <;> simp [hd, later]
        · simp [hkj, Memory.read, Ne.symm hkj]
      · rw [if_neg h1, if_neg h2, Memory.read_cell_append]
        by_cases hka : k = a
        · subst hka
          have : ¬ j = k := h2
          by_cases hd : d = Memory.unlisted <;>
            simp [hd, Memory.read, this, later k (by omega)]
        · simp [hka]

/-- A read after a write: the byte written at its offset, the old byte elsewhere. -/
theorem Memory.read_write {m : Memory} (h : m.wf = true) (a : Nat) (d : Byte) (k : Nat) :
    (m.write a d).read k = if k = a then d else m.read k :=
  Memory.read_write_from h a d k

theorem Memory.wfFrom_mono {n n' : Nat} (hn : n' ≤ n) {m : Memory}
    (h : Memory.wfFrom n m = true) : Memory.wfFrom n' m = true := by
  cases m with
  | nil => rfl
  | cons c m =>
    simp only [Memory.wfFrom, Bool.and_eq_true, decide_eq_true_eq] at h ⊢
    exact ⟨⟨by omega, h.1.2⟩, h.2⟩

theorem Memory.wfFrom_cell_append {n a : Nat} (hn : n ≤ a) (d : Byte) {m : Memory}
    (h : Memory.wfFrom (a + 1) m = true) : Memory.wfFrom n (Memory.cell a d ++ m) = true := by
  unfold Memory.cell
  by_cases hd : d = Memory.unlisted
  · simpa [hd] using Memory.wfFrom_mono (by omega) h
  · simp [hd, Memory.wfFrom, hn, h]

theorem Memory.wfFrom_write {n : Nat} {m : Memory} (h : Memory.wfFrom n m = true) {a : Nat}
    (hn : n ≤ a) (d : Byte) : Memory.wfFrom n (m.write a d) = true := by
  induction m generalizing n with
  | nil => simpa [Memory.write] using Memory.wfFrom_cell_append hn d (m := []) rfl
  | cons c m ih =>
    obtain ⟨j, b⟩ := c
    have h0 := h
    simp only [Memory.wfFrom, Bool.and_eq_true, decide_eq_true_eq] at h
    simp only [Memory.write]
    by_cases h1 : j < a
    · simp [h1, Memory.wfFrom, h.1.1, ih h.2 (by omega : j + 1 ≤ a)]
      simpa using h.1.2
    · by_cases h2 : j = a
      · subst h2
        rw [if_neg h1, if_pos rfl]
        exact Memory.wfFrom_cell_append hn d h.2
      · rw [if_neg h1, if_neg h2]
        refine Memory.wfFrom_cell_append hn d ?_
        simp only [Memory.wfFrom, Bool.and_eq_true, decide_eq_true_eq]
        exact ⟨⟨by omega, h.1.2⟩, h.2⟩

/-- A write keeps the canonical form. -/
theorem Memory.wf_write {m : Memory} (h : m.wf = true) (a : Nat) (d : Byte) :
    (m.write a d).wf = true :=
  Memory.wfFrom_write h (Nat.zero_le a) d

/-- A write inside a memory's size keeps every listed offset inside it. -/
theorem Memory.below_write {size : Nat} {m : Memory} (h : m.below size = true) {a : Nat}
    (ha : a < size) (d : Byte) : (m.write a d).below size = true := by
  have hc : Memory.below size (Memory.cell a d) = true := by
    unfold Memory.cell Memory.below
    by_cases hd : d = Memory.unlisted <;> simp [hd, ha]
  have happ : ∀ m' : Memory, m'.below size = true →
      Memory.below size (Memory.cell a d ++ m') = true := by
    intro m' hm'
    unfold Memory.below at *
    rw [List.all_append, hc, hm']
    rfl
  induction m with
  | nil => simpa [Memory.write] using hc
  | cons c m ih =>
    obtain ⟨j, b⟩ := c
    have h0 := h
    unfold Memory.below at h
    rw [List.all_cons, Bool.and_eq_true] at h
    simp only [Memory.write]
    split
    · unfold Memory.below
      rw [List.all_cons, Bool.and_eq_true]
      exact ⟨h.1, ih h.2⟩
    · split
      · exact happ m h.2
      · exact happ _ h0

/-- The byte that a list of bytes put at an offset, from offset `n` on. -/
theorem Memory.read_ofBytes (n : Nat) (ds : List Byte) (k : Nat) :
    (Memory.ofBytes n ds).read k =
      if n ≤ k then ds.getD (k - n) Memory.unlisted else Memory.unlisted := by
  induction ds generalizing n with
  | nil => simp [Memory.ofBytes]
  | cons d ds ih =>
    rw [Memory.ofBytes, Memory.read_cell_append, ih]
    rcases Nat.lt_trichotomy k n with h | rfl | h
    · simp [show ¬ n ≤ k by omega, show ¬ n + 1 ≤ k by omega, show ¬ k = n by omega]
    · by_cases hd : d = Memory.unlisted <;> simp [hd]
    · simp [show n ≤ k by omega, show n + 1 ≤ k by omega, show ¬ k = n by omega,
        show k - n = (k - (n + 1)) + 1 by omega]

/-- A list of bytes fills a memory in canonical form. -/
theorem Memory.wfFrom_ofBytes (n : Nat) (ds : List Byte) :
    Memory.wfFrom n (Memory.ofBytes n ds) = true := by
  induction ds generalizing n with
  | nil => rfl
  | cons d ds ih => exact Memory.wfFrom_cell_append (Nat.le_refl n) d (ih (n + 1))

theorem Memory.wf_ofBytes (ds : List Byte) : (Memory.ofBytes 0 ds).wf = true :=
  Memory.wfFrom_ofBytes 0 ds

/-- A list of bytes fills a memory up to its length. -/
theorem Memory.below_ofBytes {size n : Nat} {ds : List Byte} (h : n + ds.length ≤ size) :
    (Memory.ofBytes n ds).below size = true := by
  induction ds generalizing n with
  | nil => rfl
  | cons d ds ih =>
    rw [List.length_cons] at h
    have hn : n < size := by omega
    unfold Memory.below at *
    rw [Memory.ofBytes, List.all_append, ih (by omega)]
    by_cases hd : d = Memory.unlisted <;> simp [Memory.cell, hd, hn]

/-- The bytes of a memory, one by one. -/
theorem Memory.getD_bytes {size k : Nat} (m : Memory) (h : k < size) (d : Byte) :
    (m.bytes size).getD k d = m.read k := by
  simp [Memory.bytes, List.getD_eq_getElem?_getD, h]

theorem Memory.ext_from {n : Nat} {m m' : Memory} (h : Memory.wfFrom n m = true)
    (h' : Memory.wfFrom n m' = true) (hr : ∀ a, m.read a = m'.read a) : m = m' := by
  induction m generalizing n m' with
  | nil =>
    cases m' with
    | nil => rfl
    | cons c m' =>
      obtain ⟨k, b⟩ := c
      simp only [Memory.wfFrom, Bool.and_eq_true, decide_eq_true_eq, bne_iff_ne] at h'
      have := hr k
      simp only [Memory.read, if_true] at this
      exact absurd this.symm h'.1.2
  | cons c m ih =>
    obtain ⟨k, b⟩ := c
    simp only [Memory.wfFrom, Bool.and_eq_true, decide_eq_true_eq, bne_iff_ne] at h
    cases m' with
    | nil =>
      have := hr k
      simp only [Memory.read, if_true] at this
      exact absurd this h.1.2
    | cons c' m' =>
      obtain ⟨k', b'⟩ := c'
      simp only [Memory.wfFrom, Bool.and_eq_true, decide_eq_true_eq, bne_iff_ne] at h'
      have hk : k = k' := by
        by_contra hne
        rcases Nat.lt_or_gt_of_ne hne with hlt | hgt
        · have := hr k
          have h2 : ¬ k' = k := fun e => hne e.symm
          simp only [Memory.read, if_true, h2, if_false,
            Memory.read_below h'.2 (by omega : k < k' + 1)] at this
          exact h.1.2 this
        · have := hr k'
          simp only [Memory.read, if_true, hne, if_false,
            Memory.read_below h.2 (by omega : k' < k + 1)] at this
          exact h'.1.2 this.symm
      subst hk
      have hb : b = b' := by simpa [Memory.read] using hr k
      subst hb
      have : m = m' := by
        refine ih h.2 h'.2 fun a => ?_
        by_cases ha : k = a
        · subst ha
          rw [Memory.read_below h.2 (by omega), Memory.read_below h'.2 (by omega)]
        · simpa [Memory.read, ha] using hr a
      rw [this]

/-- Canonical memories with the same bytes are the same list. -/
theorem Memory.ext {m m' : Memory} (h : m.wf = true) (h' : m'.wf = true)
    (hr : ∀ a, m.read a = m'.read a) : m = m' :=
  Memory.ext_from h h' hr

end Sys2Proof.Machine
end

