-- ==== Sys2Proof/Laws/State.lean ====
section
/-! SUPPORT. One lemma for each field of the state under each named update: the field written has its new value, every other field
its old one. -/

namespace Sys2Proof.Machine

variable (s : State)

@[simp] theorem State.setA_a (v : Byte) : (s.setA v).a = v := rfl
@[simp] theorem State.setA_x (v : Byte) : (s.setA v).x = s.x := rfl
@[simp] theorem State.setA_y (v : Byte) : (s.setA v).y = s.y := rfl
@[simp] theorem State.setA_sp (v : Byte) : (s.setA v).sp = s.sp := rfl
@[simp] theorem State.setA_pc (v : Byte) : (s.setA v).pc = s.pc := rfl
@[simp] theorem State.setA_p (v : Byte) : (s.setA v).p = s.p := rfl
@[simp] theorem State.setA_cycles (v : Byte) : (s.setA v).cycles = s.cycles := rfl
@[simp] theorem State.setA_pending (v : Byte) : (s.setA v).pending = s.pending := rfl
@[simp] theorem State.setA_fault (v : Byte) : (s.setA v).fault = s.fault := rfl
@[simp] theorem State.setA_diag (v : Byte) : (s.setA v).diag = s.diag := rfl
@[simp] theorem State.setA_ppu (v : Byte) : (s.setA v).ppu = s.ppu := rfl
@[simp] theorem State.setA_ram (v : Byte) : (s.setA v).ram = s.ram := rfl
@[simp] theorem State.setA_cart (v : Byte) : (s.setA v).cart = s.cart := rfl
@[simp] theorem State.setA_cfg (v : Byte) : (s.setA v).cfg = s.cfg := rfl
@[simp] theorem State.setA_irqInput (v : Byte) : (s.setA v).irqInput = s.irqInput := rfl
@[simp] theorem State.setA_draws (v : Byte) : (s.setA v).draws = s.draws := rfl

@[simp] theorem State.setX_a (v : Byte) : (s.setX v).a = s.a := rfl
@[simp] theorem State.setX_x (v : Byte) : (s.setX v).x = v := rfl
@[simp] theorem State.setX_y (v : Byte) : (s.setX v).y = s.y := rfl
@[simp] theorem State.setX_sp (v : Byte) : (s.setX v).sp = s.sp := rfl
@[simp] theorem State.setX_pc (v : Byte) : (s.setX v).pc = s.pc := rfl
@[simp] theorem State.setX_p (v : Byte) : (s.setX v).p = s.p := rfl
@[simp] theorem State.setX_cycles (v : Byte) : (s.setX v).cycles = s.cycles := rfl
@[simp] theorem State.setX_pending (v : Byte) : (s.setX v).pending = s.pending := rfl
@[simp] theorem State.setX_fault (v : Byte) : (s.setX v).fault = s.fault := rfl
@[simp] theorem State.setX_diag (v : Byte) : (s.setX v).diag = s.diag := rfl
@[simp] theorem State.setX_ppu (v : Byte) : (s.setX v).ppu = s.ppu := rfl
@[simp] theorem State.setX_ram (v : Byte) : (s.setX v).ram = s.ram := rfl
@[simp] theorem State.setX_cart (v : Byte) : (s.setX v).cart = s.cart := rfl
@[simp] theorem State.setX_cfg (v : Byte) : (s.setX v).cfg = s.cfg := rfl
@[simp] theorem State.setX_irqInput (v : Byte) : (s.setX v).irqInput = s.irqInput := rfl
@[simp] theorem State.setX_draws (v : Byte) : (s.setX v).draws = s.draws := rfl

@[simp] theorem State.setY_a (v : Byte) : (s.setY v).a = s.a := rfl
@[simp] theorem State.setY_x (v : Byte) : (s.setY v).x = s.x := rfl
@[simp] theorem State.setY_y (v : Byte) : (s.setY v).y = v := rfl
@[simp] theorem State.setY_sp (v : Byte) : (s.setY v).sp = s.sp := rfl
@[simp] theorem State.setY_pc (v : Byte) : (s.setY v).pc = s.pc := rfl
@[simp] theorem State.setY_p (v : Byte) : (s.setY v).p = s.p := rfl
@[simp] theorem State.setY_cycles (v : Byte) : (s.setY v).cycles = s.cycles := rfl
@[simp] theorem State.setY_pending (v : Byte) : (s.setY v).pending = s.pending := rfl
@[simp] theorem State.setY_fault (v : Byte) : (s.setY v).fault = s.fault := rfl
@[simp] theorem State.setY_diag (v : Byte) : (s.setY v).diag = s.diag := rfl
@[simp] theorem State.setY_ppu (v : Byte) : (s.setY v).ppu = s.ppu := rfl
@[simp] theorem State.setY_ram (v : Byte) : (s.setY v).ram = s.ram := rfl
@[simp] theorem State.setY_cart (v : Byte) : (s.setY v).cart = s.cart := rfl
@[simp] theorem State.setY_cfg (v : Byte) : (s.setY v).cfg = s.cfg := rfl
@[simp] theorem State.setY_irqInput (v : Byte) : (s.setY v).irqInput = s.irqInput := rfl
@[simp] theorem State.setY_draws (v : Byte) : (s.setY v).draws = s.draws := rfl

@[simp] theorem State.setSp_a (v : Byte) : (s.setSp v).a = s.a := rfl
@[simp] theorem State.setSp_x (v : Byte) : (s.setSp v).x = s.x := rfl
@[simp] theorem State.setSp_y (v : Byte) : (s.setSp v).y = s.y := rfl
@[simp] theorem State.setSp_sp (v : Byte) : (s.setSp v).sp = v := rfl
@[simp] theorem State.setSp_pc (v : Byte) : (s.setSp v).pc = s.pc := rfl
@[simp] theorem State.setSp_p (v : Byte) : (s.setSp v).p = s.p := rfl
@[simp] theorem State.setSp_cycles (v : Byte) : (s.setSp v).cycles = s.cycles := rfl
@[simp] theorem State.setSp_pending (v : Byte) : (s.setSp v).pending = s.pending := rfl
@[simp] theorem State.setSp_fault (v : Byte) : (s.setSp v).fault = s.fault := rfl
@[simp] theorem State.setSp_diag (v : Byte) : (s.setSp v).diag = s.diag := rfl
@[simp] theorem State.setSp_ppu (v : Byte) : (s.setSp v).ppu = s.ppu := rfl
@[simp] theorem State.setSp_ram (v : Byte) : (s.setSp v).ram = s.ram := rfl
@[simp] theorem State.setSp_cart (v : Byte) : (s.setSp v).cart = s.cart := rfl
@[simp] theorem State.setSp_cfg (v : Byte) : (s.setSp v).cfg = s.cfg := rfl
@[simp] theorem State.setSp_irqInput (v : Byte) : (s.setSp v).irqInput = s.irqInput := rfl
@[simp] theorem State.setSp_draws (v : Byte) : (s.setSp v).draws = s.draws := rfl

@[simp] theorem State.setPc_a (v : Word) : (s.setPc v).a = s.a := rfl
@[simp] theorem State.setPc_x (v : Word) : (s.setPc v).x = s.x := rfl
@[simp] theorem State.setPc_y (v : Word) : (s.setPc v).y = s.y := rfl
@[simp] theorem State.setPc_sp (v : Word) : (s.setPc v).sp = s.sp := rfl
@[simp] theorem State.setPc_pc (v : Word) : (s.setPc v).pc = v := rfl
@[simp] theorem State.setPc_p (v : Word) : (s.setPc v).p = s.p := rfl
@[simp] theorem State.setPc_cycles (v : Word) : (s.setPc v).cycles = s.cycles := rfl
@[simp] theorem State.setPc_pending (v : Word) : (s.setPc v).pending = s.pending := rfl
@[simp] theorem State.setPc_fault (v : Word) : (s.setPc v).fault = s.fault := rfl
@[simp] theorem State.setPc_diag (v : Word) : (s.setPc v).diag = s.diag := rfl
@[simp] theorem State.setPc_ppu (v : Word) : (s.setPc v).ppu = s.ppu := rfl
@[simp] theorem State.setPc_ram (v : Word) : (s.setPc v).ram = s.ram := rfl
@[simp] theorem State.setPc_cart (v : Word) : (s.setPc v).cart = s.cart := rfl
@[simp] theorem State.setPc_cfg (v : Word) : (s.setPc v).cfg = s.cfg := rfl
@[simp] theorem State.setPc_irqInput (v : Word) : (s.setPc v).irqInput = s.irqInput := rfl
@[simp] theorem State.setPc_draws (v : Word) : (s.setPc v).draws = s.draws := rfl

@[simp] theorem State.setP_a (v : Flags) : (s.setP v).a = s.a := rfl
@[simp] theorem State.setP_x (v : Flags) : (s.setP v).x = s.x := rfl
@[simp] theorem State.setP_y (v : Flags) : (s.setP v).y = s.y := rfl
@[simp] theorem State.setP_sp (v : Flags) : (s.setP v).sp = s.sp := rfl
@[simp] theorem State.setP_pc (v : Flags) : (s.setP v).pc = s.pc := rfl
@[simp] theorem State.setP_p (v : Flags) : (s.setP v).p = v := rfl
@[simp] theorem State.setP_cycles (v : Flags) : (s.setP v).cycles = s.cycles := rfl
@[simp] theorem State.setP_pending (v : Flags) : (s.setP v).pending = s.pending := rfl
@[simp] theorem State.setP_fault (v : Flags) : (s.setP v).fault = s.fault := rfl
@[simp] theorem State.setP_diag (v : Flags) : (s.setP v).diag = s.diag := rfl
@[simp] theorem State.setP_ppu (v : Flags) : (s.setP v).ppu = s.ppu := rfl
@[simp] theorem State.setP_ram (v : Flags) : (s.setP v).ram = s.ram := rfl
@[simp] theorem State.setP_cart (v : Flags) : (s.setP v).cart = s.cart := rfl
@[simp] theorem State.setP_cfg (v : Flags) : (s.setP v).cfg = s.cfg := rfl
@[simp] theorem State.setP_irqInput (v : Flags) : (s.setP v).irqInput = s.irqInput := rfl
@[simp] theorem State.setP_draws (v : Flags) : (s.setP v).draws = s.draws := rfl

@[simp] theorem State.setPending_a (v : Option Interrupt) : (s.setPending v).a = s.a := rfl
@[simp] theorem State.setPending_x (v : Option Interrupt) : (s.setPending v).x = s.x := rfl
@[simp] theorem State.setPending_y (v : Option Interrupt) : (s.setPending v).y = s.y := rfl
@[simp] theorem State.setPending_sp (v : Option Interrupt) : (s.setPending v).sp = s.sp := rfl
@[simp] theorem State.setPending_pc (v : Option Interrupt) : (s.setPending v).pc = s.pc := rfl
@[simp] theorem State.setPending_p (v : Option Interrupt) : (s.setPending v).p = s.p := rfl
@[simp] theorem State.setPending_cycles (v : Option Interrupt) : (s.setPending v).cycles = s.cycles := rfl
@[simp] theorem State.setPending_pending (v : Option Interrupt) : (s.setPending v).pending = v := rfl
@[simp] theorem State.setPending_fault (v : Option Interrupt) : (s.setPending v).fault = s.fault := rfl
@[simp] theorem State.setPending_diag (v : Option Interrupt) : (s.setPending v).diag = s.diag := rfl
@[simp] theorem State.setPending_ppu (v : Option Interrupt) : (s.setPending v).ppu = s.ppu := rfl
@[simp] theorem State.setPending_ram (v : Option Interrupt) : (s.setPending v).ram = s.ram := rfl
@[simp] theorem State.setPending_cart (v : Option Interrupt) : (s.setPending v).cart = s.cart := rfl
@[simp] theorem State.setPending_cfg (v : Option Interrupt) : (s.setPending v).cfg = s.cfg := rfl
@[simp] theorem State.setPending_irqInput (v : Option Interrupt) : (s.setPending v).irqInput = s.irqInput := rfl
@[simp] theorem State.setPending_draws (v : Option Interrupt) : (s.setPending v).draws = s.draws := rfl

@[simp] theorem State.setPpu_a (v : Ppu) : (s.setPpu v).a = s.a := rfl
@[simp] theorem State.setPpu_x (v : Ppu) : (s.setPpu v).x = s.x := rfl
@[simp] theorem State.setPpu_y (v : Ppu) : (s.setPpu v).y = s.y := rfl
@[simp] theorem State.setPpu_sp (v : Ppu) : (s.setPpu v).sp = s.sp := rfl
@[simp] theorem State.setPpu_pc (v : Ppu) : (s.setPpu v).pc = s.pc := rfl
@[simp] theorem State.setPpu_p (v : Ppu) : (s.setPpu v).p = s.p := rfl
@[simp] theorem State.setPpu_cycles (v : Ppu) : (s.setPpu v).cycles = s.cycles := rfl
@[simp] theorem State.setPpu_pending (v : Ppu) : (s.setPpu v).pending = s.pending := rfl
@[simp] theorem State.setPpu_fault (v : Ppu) : (s.setPpu v).fault = s.fault := rfl
@[simp] theorem State.setPpu_diag (v : Ppu) : (s.setPpu v).diag = s.diag := rfl
@[simp] theorem State.setPpu_ppu (v : Ppu) : (s.setPpu v).ppu = v := rfl
@[simp] theorem State.setPpu_ram (v : Ppu) : (s.setPpu v).ram = s.ram := rfl
@[simp] theorem State.setPpu_cart (v : Ppu) : (s.setPpu v).cart = s.cart := rfl
@[simp] theorem State.setPpu_cfg (v : Ppu) : (s.setPpu v).cfg = s.cfg := rfl
@[simp] theorem State.setPpu_irqInput (v : Ppu) : (s.setPpu v).irqInput = s.irqInput := rfl
@[simp] theorem State.setPpu_draws (v : Ppu) : (s.setPpu v).draws = s.draws := rfl

@[simp] theorem State.setRam_a (v : Memory) : (s.setRam v).a = s.a := rfl
@[simp] theorem State.setRam_x (v : Memory) : (s.setRam v).x = s.x := rfl
@[simp] theorem State.setRam_y (v : Memory) : (s.setRam v).y = s.y := rfl
@[simp] theorem State.setRam_sp (v : Memory) : (s.setRam v).sp = s.sp := rfl
@[simp] theorem State.setRam_pc (v : Memory) : (s.setRam v).pc = s.pc := rfl
@[simp] theorem State.setRam_p (v : Memory) : (s.setRam v).p = s.p := rfl
@[simp] theorem State.setRam_cycles (v : Memory) : (s.setRam v).cycles = s.cycles := rfl
@[simp] theorem State.setRam_pending (v : Memory) : (s.setRam v).pending = s.pending := rfl
@[simp] theorem State.setRam_fault (v : Memory) : (s.setRam v).fault = s.fault := rfl
@[simp] theorem State.setRam_diag (v : Memory) : (s.setRam v).diag = s.diag := rfl
@[simp] theorem State.setRam_ppu (v : Memory) : (s.setRam v).ppu = s.ppu := rfl
@[simp] theorem State.setRam_ram (v : Memory) : (s.setRam v).ram = v := rfl
@[simp] theorem State.setRam_cart (v : Memory) : (s.setRam v).cart = s.cart := rfl
@[simp] theorem State.setRam_cfg (v : Memory) : (s.setRam v).cfg = s.cfg := rfl
@[simp] theorem State.setRam_irqInput (v : Memory) : (s.setRam v).irqInput = s.irqInput := rfl
@[simp] theorem State.setRam_draws (v : Memory) : (s.setRam v).draws = s.draws := rfl

@[simp] theorem State.setCart_a (v : Cartridge) : (s.setCart v).a = s.a := rfl
@[simp] theorem State.setCart_x (v : Cartridge) : (s.setCart v).x = s.x := rfl
@[simp] theorem State.setCart_y (v : Cartridge) : (s.setCart v).y = s.y := rfl
@[simp] theorem State.setCart_sp (v : Cartridge) : (s.setCart v).sp = s.sp := rfl
@[simp] theorem State.setCart_pc (v : Cartridge) : (s.setCart v).pc = s.pc := rfl
@[simp] theorem State.setCart_p (v : Cartridge) : (s.setCart v).p = s.p := rfl
@[simp] theorem State.setCart_cycles (v : Cartridge) : (s.setCart v).cycles = s.cycles := rfl
@[simp] theorem State.setCart_pending (v : Cartridge) : (s.setCart v).pending = s.pending := rfl
@[simp] theorem State.setCart_fault (v : Cartridge) : (s.setCart v).fault = s.fault := rfl
@[simp] theorem State.setCart_diag (v : Cartridge) : (s.setCart v).diag = s.diag := rfl
@[simp] theorem State.setCart_ppu (v : Cartridge) : (s.setCart v).ppu = s.ppu := rfl
@[simp] theorem State.setCart_ram (v : Cartridge) : (s.setCart v).ram = s.ram := rfl
@[simp] theorem State.setCart_cart (v : Cartridge) : (s.setCart v).cart = v := rfl
@[simp] theorem State.setCart_cfg (v : Cartridge) : (s.setCart v).cfg = s.cfg := rfl
@[simp] theorem State.setCart_irqInput (v : Cartridge) : (s.setCart v).irqInput = s.irqInput := rfl
@[simp] theorem State.setCart_draws (v : Cartridge) : (s.setCart v).draws = s.draws := rfl

@[simp] theorem State.setIrqInput_a (v : List Bool) : (s.setIrqInput v).a = s.a := rfl
@[simp] theorem State.setIrqInput_x (v : List Bool) : (s.setIrqInput v).x = s.x := rfl
@[simp] theorem State.setIrqInput_y (v : List Bool) : (s.setIrqInput v).y = s.y := rfl
@[simp] theorem State.setIrqInput_sp (v : List Bool) : (s.setIrqInput v).sp = s.sp := rfl
@[simp] theorem State.setIrqInput_pc (v : List Bool) : (s.setIrqInput v).pc = s.pc := rfl
@[simp] theorem State.setIrqInput_p (v : List Bool) : (s.setIrqInput v).p = s.p := rfl
@[simp] theorem State.setIrqInput_cycles (v : List Bool) : (s.setIrqInput v).cycles = s.cycles := rfl
@[simp] theorem State.setIrqInput_pending (v : List Bool) : (s.setIrqInput v).pending = s.pending := rfl
@[simp] theorem State.setIrqInput_fault (v : List Bool) : (s.setIrqInput v).fault = s.fault := rfl
@[simp] theorem State.setIrqInput_diag (v : List Bool) : (s.setIrqInput v).diag = s.diag := rfl
@[simp] theorem State.setIrqInput_ppu (v : List Bool) : (s.setIrqInput v).ppu = s.ppu := rfl
@[simp] theorem State.setIrqInput_ram (v : List Bool) : (s.setIrqInput v).ram = s.ram := rfl
@[simp] theorem State.setIrqInput_cart (v : List Bool) : (s.setIrqInput v).cart = s.cart := rfl
@[simp] theorem State.setIrqInput_cfg (v : List Bool) : (s.setIrqInput v).cfg = s.cfg := rfl
@[simp] theorem State.setIrqInput_irqInput (v : List Bool) : (s.setIrqInput v).irqInput = v := rfl
@[simp] theorem State.setIrqInput_draws (v : List Bool) : (s.setIrqInput v).draws = s.draws := rfl

@[simp] theorem State.addCycles_a (n : Nat) : (s.addCycles n).a = s.a := rfl
@[simp] theorem State.addCycles_x (n : Nat) : (s.addCycles n).x = s.x := rfl
@[simp] theorem State.addCycles_y (n : Nat) : (s.addCycles n).y = s.y := rfl
@[simp] theorem State.addCycles_sp (n : Nat) : (s.addCycles n).sp = s.sp := rfl
@[simp] theorem State.addCycles_pc (n : Nat) : (s.addCycles n).pc = s.pc := rfl
@[simp] theorem State.addCycles_p (n : Nat) : (s.addCycles n).p = s.p := rfl
@[simp] theorem State.addCycles_cycles (n : Nat) : (s.addCycles n).cycles = s.cycles + n := rfl
@[simp] theorem State.addCycles_pending (n : Nat) : (s.addCycles n).pending = s.pending := rfl
@[simp] theorem State.addCycles_fault (n : Nat) : (s.addCycles n).fault = s.fault := rfl
@[simp] theorem State.addCycles_diag (n : Nat) : (s.addCycles n).diag = s.diag := rfl
@[simp] theorem State.addCycles_ppu (n : Nat) : (s.addCycles n).ppu = s.ppu := rfl
@[simp] theorem State.addCycles_ram (n : Nat) : (s.addCycles n).ram = s.ram := rfl
@[simp] theorem State.addCycles_cart (n : Nat) : (s.addCycles n).cart = s.cart := rfl
@[simp] theorem State.addCycles_cfg (n : Nat) : (s.addCycles n).cfg = s.cfg := rfl
@[simp] theorem State.addCycles_irqInput (n : Nat) : (s.addCycles n).irqInput = s.irqInput := rfl
@[simp] theorem State.addCycles_draws (n : Nat) : (s.addCycles n).draws = s.draws := rfl

@[simp] theorem State.logDiag_a (e : Diag) : (s.logDiag e).a = s.a := rfl
@[simp] theorem State.logDiag_x (e : Diag) : (s.logDiag e).x = s.x := rfl
@[simp] theorem State.logDiag_y (e : Diag) : (s.logDiag e).y = s.y := rfl
@[simp] theorem State.logDiag_sp (e : Diag) : (s.logDiag e).sp = s.sp := rfl
@[simp] theorem State.logDiag_pc (e : Diag) : (s.logDiag e).pc = s.pc := rfl
@[simp] theorem State.logDiag_p (e : Diag) : (s.logDiag e).p = s.p := rfl
@[simp] theorem State.logDiag_cycles (e : Diag) : (s.logDiag e).cycles = s.cycles := rfl
@[simp] theorem State.logDiag_pending (e : Diag) : (s.logDiag e).pending = s.pending := rfl
@[simp] theorem State.logDiag_fault (e : Diag) : (s.logDiag e).fault = s.fault := rfl
@[simp] theorem State.logDiag_diag (e : Diag) : (s.logDiag e).diag = s.diag ++ [e] := rfl
@[simp] theorem State.logDiag_ppu (e : Diag) : (s.logDiag e).ppu = s.ppu := rfl
@[simp] theorem State.logDiag_ram (e : Diag) : (s.logDiag e).ram = s.ram := rfl
@[simp] theorem State.logDiag_cart (e : Diag) : (s.logDiag e).cart = s.cart := rfl
@[simp] theorem State.logDiag_cfg (e : Diag) : (s.logDiag e).cfg = s.cfg := rfl
@[simp] theorem State.logDiag_irqInput (e : Diag) : (s.logDiag e).irqInput = s.irqInput := rfl
@[simp] theorem State.logDiag_draws (e : Diag) : (s.logDiag e).draws = s.draws := rfl

@[simp] theorem State.raiseFault_a (r : FaultRecord) : (s.raiseFault r).a = s.a := rfl
@[simp] theorem State.raiseFault_x (r : FaultRecord) : (s.raiseFault r).x = s.x := rfl
@[simp] theorem State.raiseFault_y (r : FaultRecord) : (s.raiseFault r).y = s.y := rfl
@[simp] theorem State.raiseFault_sp (r : FaultRecord) : (s.raiseFault r).sp = s.sp := rfl
@[simp] theorem State.raiseFault_pc (r : FaultRecord) : (s.raiseFault r).pc = s.pc := rfl
@[simp] theorem State.raiseFault_p (r : FaultRecord) : (s.raiseFault r).p = s.p := rfl
@[simp] theorem State.raiseFault_cycles (r : FaultRecord) : (s.raiseFault r).cycles = s.cycles := rfl
@[simp] theorem State.raiseFault_pending (r : FaultRecord) : (s.raiseFault r).pending = s.pending := rfl
@[simp] theorem State.raiseFault_fault (r : FaultRecord) : (s.raiseFault r).fault = (s.fault <|> some r) := rfl
@[simp] theorem State.raiseFault_diag (r : FaultRecord) : (s.raiseFault r).diag = s.diag := rfl
@[simp] theorem State.raiseFault_ppu (r : FaultRecord) : (s.raiseFault r).ppu = s.ppu := rfl
@[simp] theorem State.raiseFault_ram (r : FaultRecord) : (s.raiseFault r).ram = s.ram := rfl
@[simp] theorem State.raiseFault_cart (r : FaultRecord) : (s.raiseFault r).cart = s.cart := rfl
@[simp] theorem State.raiseFault_cfg (r : FaultRecord) : (s.raiseFault r).cfg = s.cfg := rfl
@[simp] theorem State.raiseFault_irqInput (r : FaultRecord) : (s.raiseFault r).irqInput = s.irqInput := rfl
@[simp] theorem State.raiseFault_draws (r : FaultRecord) : (s.raiseFault r).draws = s.draws := rfl

@[simp] theorem State.nextDraw_a : (s.nextDraw).a = s.a := rfl
@[simp] theorem State.nextDraw_x : (s.nextDraw).x = s.x := rfl
@[simp] theorem State.nextDraw_y : (s.nextDraw).y = s.y := rfl
@[simp] theorem State.nextDraw_sp : (s.nextDraw).sp = s.sp := rfl
@[simp] theorem State.nextDraw_pc : (s.nextDraw).pc = s.pc := rfl
@[simp] theorem State.nextDraw_p : (s.nextDraw).p = s.p := rfl
@[simp] theorem State.nextDraw_cycles : (s.nextDraw).cycles = s.cycles := rfl
@[simp] theorem State.nextDraw_pending : (s.nextDraw).pending = s.pending := rfl
@[simp] theorem State.nextDraw_fault : (s.nextDraw).fault = s.fault := rfl
@[simp] theorem State.nextDraw_diag : (s.nextDraw).diag = s.diag := rfl
@[simp] theorem State.nextDraw_ppu : (s.nextDraw).ppu = s.ppu := rfl
@[simp] theorem State.nextDraw_ram : (s.nextDraw).ram = s.ram := rfl
@[simp] theorem State.nextDraw_cart : (s.nextDraw).cart = s.cart := rfl
@[simp] theorem State.nextDraw_cfg : (s.nextDraw).cfg = s.cfg := rfl
@[simp] theorem State.nextDraw_irqInput : (s.nextDraw).irqInput = s.irqInput := rfl
@[simp] theorem State.nextDraw_draws : (s.nextDraw).draws = s.draws + 1 := rfl

end Sys2Proof.Machine
end

