-- ==== Sys2Proof/Laws/Bus.lean ====
section
/-! SUPPORT. The laws of the bus and the stack: what each address region reads and writes, what a bus read can change, and the
stack operations as plain updates of work RAM. -/

namespace Sys2Proof.Machine

/-! ### The translator -/

theorem cpuTranslate_ram {a : Word} (h : a.toNat < 0x2000) :
    cpuTranslate a = ⟨.ram, BitVec.ofNat 16 (a.toNat % 2048)⟩ := by
  have h1 : a < 0x2000 := by simpa [BitVec.lt_def] using h
  have h2 : a &&& 0x07FF = BitVec.ofNat 16 (a.toNat % 2048) := by
    apply BitVec.eq_of_toNat_eq
    rw [BitVec.toNat_and, BitVec.toNat_ofNat]
    have := Nat.and_two_pow_sub_one_eq_mod a.toNat 11
    simp only [Nat.reducePow, Nat.reduceSub] at this
    simp only [BitVec.ofNat_eq_ofNat, BitVec.toNat_ofNat, Nat.reducePow, Nat.reduceMod, this]
    omega
  simp only [cpuTranslate, h1, if_true, h2]

theorem cpuTranslate_ppu {a : Word} (h : 0x2000 ≤ a.toNat) (h' : a.toNat < 0x4000) :
    cpuTranslate a = ⟨.ppuReg, 0x2000 + (a &&& 7)⟩ := by
  have h1 : ¬ a < 0x2000 := by simp [BitVec.lt_def]; omega
  have h2 : a < 0x4000 := by simpa [BitVec.lt_def] using h'
  rw [cpuTranslate, if_neg h1, if_pos h2]

theorem cpuTranslate_mapper {a : Word} (h : 0x6000 ≤ a.toNat) :
    cpuTranslate a = ⟨.mapper, a⟩ := by
  have h1 : ¬ a < 0x2000 := by simp [BitVec.lt_def]; omega
  have h2 : ¬ a < 0x4000 := by simp [BitVec.lt_def]; omega
  have h3 : ∀ w : Word, w.toNat < 0x6000 → a ≠ w := by rintro w hw rfl; omega
  have h4 : ¬ a < 0x6000 := by simp [BitVec.lt_def]; omega
  rw [cpuTranslate, if_neg h1, if_neg h2, if_neg (h3 0x4014 (by decide)),
    if_neg (h3 0x4015 (by decide)), if_neg (h3 0x4016 (by decide)), if_neg (h3 0x4017 (by decide)),
    if_neg h4]

theorem cpuTranslate_invalid {a : Word} (h : 0x4000 ≤ a.toNat) (h' : a.toNat < 0x6000)
    (hp : a.toNat < 0x4014 ∨ 0x4018 ≤ a.toNat) : cpuTranslate a = ⟨.invalid, a⟩ := by
  have h1 : ¬ a < 0x2000 := by simp [BitVec.lt_def]; omega
  have h2 : ¬ a < 0x4000 := by simp [BitVec.lt_def]; omega
  have h3 : ∀ w : Word, 0x4014 ≤ w.toNat → w.toNat < 0x4018 → a ≠ w := by
    rintro w hw hw' rfl; omega
  have h4 : a < 0x6000 := by simp [BitVec.lt_def]; omega
  rw [cpuTranslate, if_neg h1, if_neg h2, if_neg (h3 0x4014 (by decide) (by decide)),
    if_neg (h3 0x4015 (by decide) (by decide)), if_neg (h3 0x4016 (by decide) (by decide)),
    if_neg (h3 0x4017 (by decide) (by decide)), if_pos h4]

/-- The register a PPU window address selects is given by its low three bits. -/
theorem ppuRegOf_window (a : Word) : ppuRegOf (0x2000 + (a &&& 7)) = PpuReg.ofSel (a.setWidth 3) := by
  unfold ppuRegOf
  congr 1
  apply BitVec.eq_of_toNat_eq
  have h := Nat.and_two_pow_sub_one_eq_mod a.toNat 3
  simp only [Nat.reducePow, Nat.reduceSub] at h
  simp only [BitVec.toNat_setWidth, BitVec.toNat_add, BitVec.toNat_and, BitVec.ofNat_eq_ofNat,
    BitVec.toNat_ofNat, Nat.reducePow, Nat.reduceMod, h]
  omega

/-! ### Reads and writes by region -/

theorem memRead_ram {a : Word} (h : a.toNat < 0x2000) (s : State) :
    memRead a s = (s.ram.read (a.toNat % 2048), s) := by
  have : a.toNat % 2048 % 65536 = a.toNat % 2048 := by omega
  simp [memRead, cpuTranslate_ram h, this]

theorem memRead_ppu {a : Word} (h : 0x2000 ≤ a.toNat) (h' : a.toNat < 0x4000) (s : State) :
    memRead a s = ppuRegRead (PpuReg.ofSel (a.setWidth 3)) s := by
  rw [← ppuRegOf_window]
  simp [memRead, cpuTranslate_ppu h h']

theorem memRead_mapper {a : Word} (h : 0x6000 ≤ a.toNat) (s : State) :
    memRead a s = (mapperRead s.cart a, s) := by
  simp [memRead, cpuTranslate_mapper h]

theorem memRead_invalid {a : Word} (h : 0x4000 ≤ a.toNat) (h' : a.toNat < 0x6000)
    (hp : a.toNat < 0x4014 ∨ 0x4018 ≤ a.toNat) (s : State) :
    memRead a s = (0, s.logDiag (.invalidRead a)) := by
  simp [memRead, cpuTranslate_invalid h h' hp]

theorem memWrite_ram {a : Word} (h : a.toNat < 0x2000) (d : Byte) (s : State) :
    memWrite a d s = s.setRam (s.ram.write (a.toNat % 2048) d) := by
  have : a.toNat % 2048 % 65536 = a.toNat % 2048 := by omega
  simp [memWrite, cpuTranslate_ram h, this]

theorem memWrite_ppu {a : Word} (h : 0x2000 ≤ a.toNat) (h' : a.toNat < 0x4000) (d : Byte)
    (s : State) : memWrite a d s = ppuRegWrite (PpuReg.ofSel (a.setWidth 3)) d s := by
  rw [← ppuRegOf_window]
  simp [memWrite, cpuTranslate_ppu h h']

theorem memWrite_mapper {a : Word} (h : 0x6000 ≤ a.toNat) (d : Byte) (s : State) :
    memWrite a d s = s.setCart (mapperWrite a d s.cart) := by
  simp [memWrite, cpuTranslate_mapper h]

theorem memWrite_invalid {a : Word} (h : 0x4000 ≤ a.toNat) (h' : a.toNat < 0x6000)
    (hp : a.toNat < 0x4014 ∨ 0x4018 ≤ a.toNat) (d : Byte) (s : State) :
    memWrite a d s = s.logDiag (.invalidWrite a d) := by
  simp [memWrite, cpuTranslate_invalid h h' hp]

/-! ### What a bus read can change -/

/-- A PPU register read changes PPU registers, never its memories, and the log; nothing else. -/
theorem ppuRegRead_frame (r : PpuReg) (s : State) :
    (ppuRegRead r s).2 = { s with ppu := (ppuRegRead r s).2.ppu, diag := (ppuRegRead r s).2.diag } ∧
    (ppuRegRead r s).2.ppu.vram = s.ppu.vram ∧ (ppuRegRead r s).2.ppu.palette = s.ppu.palette ∧
    (ppuRegRead r s).2.ppu.oam = s.ppu.oam := by
  cases r <;> exact ⟨rfl, rfl, rfl, rfl⟩

/-- A bus read changes PPU registers, the log and the draw counter, and nothing else (R52). -/
theorem memRead_frame (a : Word) (s : State) :
    (memRead a s).2 = { s with
      ppu := (memRead a s).2.ppu, diag := (memRead a s).2.diag, draws := (memRead a s).2.draws } ∧
    (memRead a s).2.ppu.vram = s.ppu.vram ∧ (memRead a s).2.ppu.palette = s.ppu.palette ∧
    (memRead a s).2.ppu.oam = s.ppu.oam := by
  unfold memRead
  dsimp only
  split <;> first | exact ⟨rfl, rfl, rfl, rfl⟩ | skip
  rename_i h
  obtain ⟨h1, h2⟩ := ppuRegRead_frame (ppuRegOf (cpuTranslate a).offset) s
  refine ⟨?_, h2⟩
  rw [h1]

section
variable (a : Word) (s : State)

@[simp] theorem memRead_a : (memRead a s).2.a = s.a := by rw [(memRead_frame a s).1]
@[simp] theorem memRead_x : (memRead a s).2.x = s.x := by rw [(memRead_frame a s).1]
@[simp] theorem memRead_y : (memRead a s).2.y = s.y := by rw [(memRead_frame a s).1]
@[simp] theorem memRead_sp : (memRead a s).2.sp = s.sp := by rw [(memRead_frame a s).1]
@[simp] theorem memRead_pc : (memRead a s).2.pc = s.pc := by rw [(memRead_frame a s).1]
@[simp] theorem memRead_p : (memRead a s).2.p = s.p := by rw [(memRead_frame a s).1]
@[simp] theorem memRead_cycles : (memRead a s).2.cycles = s.cycles := by rw [(memRead_frame a s).1]
@[simp] theorem memRead_pending : (memRead a s).2.pending = s.pending := by
  rw [(memRead_frame a s).1]
@[simp] theorem memRead_fault : (memRead a s).2.fault = s.fault := by rw [(memRead_frame a s).1]
@[simp] theorem memRead_memory : (memRead a s).2.ram = s.ram := by rw [(memRead_frame a s).1]
@[simp] theorem memRead_cart : (memRead a s).2.cart = s.cart := by rw [(memRead_frame a s).1]
@[simp] theorem memRead_cfg : (memRead a s).2.cfg = s.cfg := by rw [(memRead_frame a s).1]
@[simp] theorem memRead_irqInput : (memRead a s).2.irqInput = s.irqInput := by
  rw [(memRead_frame a s).1]
@[simp] theorem memRead_vram : (memRead a s).2.ppu.vram = s.ppu.vram := (memRead_frame a s).2.1
@[simp] theorem memRead_palette : (memRead a s).2.ppu.palette = s.ppu.palette :=
  (memRead_frame a s).2.2.1
@[simp] theorem memRead_oam : (memRead a s).2.ppu.oam = s.ppu.oam := (memRead_frame a s).2.2.2

end

/-- What a bus read depends on and changes lies in work RAM, the PPU, the cartridge, the parameters, the log and the draw counter:
it commutes with a change of any other element. -/
theorem memRead_other (a : Word) (s : State) (ra rx ry rsp : Byte) (rpc : Word) (rp : Flags)
    (rc : Nat) (rpe : Option Interrupt) (rf : Option FaultRecord) (ri : List Bool) :
    memRead a { s with
      a := ra, x := rx, y := ry, sp := rsp, pc := rpc, p := rp, cycles := rc, pending := rpe,
      fault := rf, irqInput := ri } =
    ((memRead a s).1, { (memRead a s).2 with
      a := ra, x := rx, y := ry, sp := rsp, pc := rpc, p := rp, cycles := rc, pending := rpe,
      fault := rf, irqInput := ri }) := by
  unfold memRead
  dsimp only
  generalize (cpuTranslate a).offset = o
  cases (cpuTranslate a).subsystem <;> first | rfl | skip
  dsimp only
  cases ppuRegOf o <;> rfl

theorem memRead_setPc (a : Word) (v : Word) (s : State) :
    memRead a (s.setPc v) = ((memRead a s).1, (memRead a s).2.setPc v) := by
  have h := memRead_other a s s.a s.x s.y s.sp v s.p s.cycles s.pending s.fault s.irqInput
  refine h.trans ?_
  rw [(memRead_frame a s).1]
  rfl

theorem memRead_addCycles (a : Word) (n : Nat) (s : State) :
    memRead a (s.addCycles n) = ((memRead a s).1, (memRead a s).2.addCycles n) := by
  have h := memRead_other a s s.a s.x s.y s.sp s.pc s.p (s.cycles + n) s.pending s.fault s.irqInput
  refine h.trans ?_
  rw [(memRead_frame a s).1]
  rfl

theorem memRead_setSp (a : Word) (v : Byte) (s : State) :
    memRead a (s.setSp v) = ((memRead a s).1, (memRead a s).2.setSp v) := by
  have h := memRead_other a s s.a s.x s.y v s.pc s.p s.cycles s.pending s.fault s.irqInput
  refine h.trans ?_
  rw [(memRead_frame a s).1]
  rfl

theorem memRead_setP (a : Word) (v : Flags) (s : State) :
    memRead a (s.setP v) = ((memRead a s).1, (memRead a s).2.setP v) := by
  have h := memRead_other a s s.a s.x s.y s.sp s.pc v s.cycles s.pending s.fault s.irqInput
  refine h.trans ?_
  rw [(memRead_frame a s).1]
  rfl

/-! ### The stack -/

theorem stackAddress_toNat (sp : Byte) : (stackAddress sp).toNat = 0x100 + sp.toNat := by
  revert sp; decide +kernel

theorem stackAddress_lt (sp : Byte) : (stackAddress sp).toNat < 0x2000 := by
  rw [stackAddress_toNat]; omega

theorem stackAddress_mod (sp : Byte) : (stackAddress sp).toNat % 2048 = 0x100 + sp.toNat := by
  rw [stackAddress_toNat]; omega

/-- A push stores one byte in work RAM and decrements the stack pointer (R48). -/
theorem push_eq (d : Byte) (s : State) :
    push d s = { s with ram := s.ram.write (0x100 + s.sp.toNat) d, sp := s.sp - 1 } := by
  simp only [push, memWrite_ram (stackAddress_lt s.sp), stackAddress_mod]
  rfl

/-- A pop increments the stack pointer and reads one byte of work RAM (R48). -/
theorem pop_eq (s : State) :
    pop s = (s.ram.read (0x100 + (s.sp + 1).toNat), { s with sp := s.sp + 1 }) := by
  simp only [pop, memRead_ram (stackAddress_lt _), stackAddress_mod]
  rfl

theorem push16_eq (w : Word) (s : State) :
    push16 w s = { s with
      ram := (s.ram.write (0x100 + s.sp.toNat) (hi w)).write (0x100 + (s.sp - 1).toNat) (lo w)
      sp := s.sp - 2 } := by
  simp only [push16, push_eq]
  congr 1
  rw [BitVec.sub_sub]
  rfl

theorem pop16_eq (s : State) :
    pop16 s = (wordOf (s.ram.read (0x100 + (s.sp + 2).toNat)) (s.ram.read (0x100 + (s.sp + 1).toNat)),
      { s with sp := s.sp + 2 }) := by
  have h : s.sp + 1 + 1 = s.sp + 2 := by rw [BitVec.add_assoc]; rfl
  simp only [pop16, pop_eq, h]

/-! ### Exceptions -/

theorem memRead16_mapper {a : Word} (h : 0x6000 ≤ a.toNat) (h' : a.toNat < 0xFFFF) (s : State) :
    memRead16 a s = (wordOf (mapperRead s.cart (a + 1)) (mapperRead s.cart a), s) := by
  have h1 : 0x6000 ≤ (a + 1).toNat := by
    simp [BitVec.toNat_add]; omega
  simp only [memRead16, memReadPair, memRead_mapper h, memRead_mapper h1]

/-- Taking an exception through a vector: three stack bytes, I, SP and PC; nothing else (R136, R153). -/
theorem takeException_eq (ret : Word) (status : Byte) {vector : Word} (h : 0x6000 ≤ vector.toNat)
    (h' : vector.toNat < 0xFFFF) (s : State) :
    takeException ret status vector s = { s with
      ram := ((s.ram.write (0x100 + s.sp.toNat) (hi ret)).write
        (0x100 + (s.sp - 1).toNat) (lo ret)).write (0x100 + (s.sp - 2).toNat) status
      sp := s.sp - 3
      p := { s.p with i := true }
      pc := wordOf (mapperRead s.cart (vector + 1)) (mapperRead s.cart vector) } := by
  simp only [takeException, push16_eq, push_eq, memRead16_mapper h h']
  simp only [State.setP, State.setPc]
  congr 1
  rw [BitVec.sub_sub]
  rfl

/-- Returning from an exception (R137). -/
theorem returnFromException_eq (s : State) :
    returnFromException s = { s with
      p := Flags.fromByte (s.ram.read (0x100 + (s.sp + 1).toNat))
      sp := s.sp + 3
      pc := wordOf (s.ram.read (0x100 + (s.sp + 3).toNat)) (s.ram.read (0x100 + (s.sp + 2).toNat)) } := by
  have h : s.sp + 1 + 2 = s.sp + 3 := by rw [BitVec.add_assoc]; rfl
  have h2 : s.sp + 1 + 1 = s.sp + 2 := by rw [BitVec.add_assoc]; rfl
  simp only [returnFromException, pop16_eq, pop_eq, State.setP, State.setPc, h, h2]

end Sys2Proof.Machine
end

