-- ==== Sys2Proof/Laws/Ppu.lean ====
section
/-! SUPPORT. The PPU's address space as arithmetic: what an address selects, and that every offset is inside its memory. -/

namespace Sys2Proof.Machine

theorem and_3FFF_toNat (a : Word) : (a &&& 0x3FFF).toNat = a.toNat % 0x4000 := by
  rw [BitVec.toNat_and]
  exact Nat.and_two_pow_sub_one_eq_mod a.toNat 14

theorem mirrorRow_lt (m : Mirror) {q : Nat} (h : q < 4) : (mirrorRow m).getD q 0 < 4 := by
  cases m <;> interval_cases q <;> decide

/-- The nametable index of an address (R44, R45). -/
theorem ntIndex_eq (m : Mirror) (b : Word) :
    ntIndex m b = 0x400 * (mirrorRow m).getD (b.toNat / 0x400 % 4) 0 + b.toNat % 0x400 := by
  have h1 : ((b - 0x2000) &&& 0x0FFF).toNat = b.toNat % 0x1000 := by
    rw [BitVec.toNat_and]
    refine (Nat.and_two_pow_sub_one_eq_mod _ 12).trans ?_
    simp only [BitVec.toNat_sub]
    simp
    omega
  have h2 : (((b - 0x2000) &&& 0x0FFF) &&& 0x03FF).toNat = b.toNat % 0x400 := by
    rw [BitVec.toNat_and, h1]
    refine (Nat.and_two_pow_sub_one_eq_mod _ 10).trans ?_
    omega
  unfold ntIndex
  dsimp only
  rw [h1, h2, show b.toNat % 4096 / 1024 = b.toNat / 1024 % 4 by omega]
  omega

/-- The palette index of an address (R46). -/
theorem palIndex_eq (b : Word) :
    palIndex b =
      if b.toNat % 4 = 0 ∧ 16 ≤ b.toNat % 32 then b.toNat % 32 - 16 else b.toNat % 32 := by
  have h1 : (b &&& 0x1F).toNat = b.toNat % 32 := by
    rw [BitVec.toNat_and]
    exact Nat.and_two_pow_sub_one_eq_mod b.toNat 5
  unfold palIndex
  dsimp only
  rw [h1]
  split <;> split <;> omega

/-- What a PPU address selects (R42 to R46). -/
theorem ppuTranslate_eq (m : Mirror) (a : Word) :
    ppuTranslate m a =
      if a.toNat % 0x4000 < 0x2000 then ⟨.chr, a.toNat % 0x4000⟩
      else if a.toNat % 0x4000 < 0x3F00 then
        ⟨.vram, 0x400 * (mirrorRow m).getD (a.toNat / 0x400 % 4) 0 + a.toNat % 0x400⟩
      else
        ⟨.palette,
          if a.toNat % 4 = 0 ∧ 16 ≤ a.toNat % 32 then a.toNat % 32 - 16 else a.toNat % 32⟩ := by
  unfold ppuTranslate
  dsimp only
  have e1 : ((a &&& 0x3FFF) < (0x2000 : Word)) ↔ a.toNat % 0x4000 < 0x2000 := by
    rw [BitVec.lt_def, and_3FFF_toNat]; rfl
  have e2 : ((a &&& 0x3FFF) < (0x3F00 : Word)) ↔ a.toNat % 0x4000 < 0x3F00 := by
    rw [BitVec.lt_def, and_3FFF_toNat]; rfl
  simp only [e1, e2]
  by_cases h1 : a.toNat % 0x4000 < 0x2000
  · rw [if_pos h1, if_pos h1, and_3FFF_toNat]
  · rw [if_neg h1, if_neg h1]
    by_cases h2 : a.toNat % 0x4000 < 0x3F00
    · rw [if_pos h2, if_pos h2, ntIndex_eq, and_3FFF_toNat,
        show a.toNat % 16384 / 1024 % 4 = a.toNat / 1024 % 4 by omega,
        show a.toNat % 16384 % 1024 = a.toNat % 1024 by omega]
    · rw [if_neg h2, if_neg h2, palIndex_eq, and_3FFF_toNat,
        show a.toNat % 16384 % 4 = a.toNat % 4 by omega,
        show a.toNat % 16384 % 32 = a.toNat % 32 by omega]

/-- The sizes of the PPU's memories hold every offset the translator gives (R43 to R46). -/
theorem ppuTranslate_lt (m : Mirror) (a : Word) :
    match (ppuTranslate m a).subsystem with
    | .chr => (ppuTranslate m a).offset < 0x2000
    | .vram => (ppuTranslate m a).offset < 4096
    | .palette => (ppuTranslate m a).offset < 32 := by
  rw [ppuTranslate_eq]
  have := mirrorRow_lt m (show a.toNat / 0x400 % 4 < 4 by omega)
  by_cases h1 : a.toNat % 0x4000 < 0x2000
  · rw [if_pos h1]
    exact h1
  · rw [if_neg h1]
    by_cases h2 : a.toNat % 0x4000 < 0x3F00
    · rw [if_pos h2]
      dsimp only
      omega
    · rw [if_neg h2]
      dsimp only
      split <;> omega

/-- The address of PPU data accesses (R18). -/
theorem dataAddress_toNat (p : Ppu) : p.dataAddress.toNat = p.v.toNat % 0x4000 := by
  unfold Ppu.dataAddress
  rw [and_3FFF_toNat, BitVec.toNat_setWidth]
  omega

/-- A PPU register, read or written through any of its addresses (R33, R160). -/
theorem ppuWindow {a : Word} {sel : Nat} (h : 0x2000 ≤ a.toNat) (h' : a.toNat < 0x4000)
    (hs : a.toNat % 8 = sel) :
    (∀ s, memRead a s = ppuRegRead (PpuReg.ofSel (BitVec.ofNat 3 sel)) s) ∧
    (∀ d s, memWrite a d s = ppuRegWrite (PpuReg.ofSel (BitVec.ofNat 3 sel)) d s) := by
  have e : a.setWidth 3 = BitVec.ofNat 3 sel := by
    apply BitVec.eq_of_toNat_eq
    simp only [BitVec.toNat_setWidth, BitVec.toNat_ofNat]
    omega
  exact ⟨fun s => by rw [memRead_ppu h h', e], fun d s => by rw [memWrite_ppu h h', e]⟩

end Sys2Proof.Machine
end

