-- ==== Sys2Proof/Laws/Exec.lean ====
section
/-! SUPPORT. What `exec` does, said once for each class of instruction: a documented one runs its mnemonic's handler after the
common part of the step, an illegal one runs the policy. And what the resolver does. -/

namespace Sys2Proof.Machine

/-- The handler of a documented mnemonic. -/
def handlerOf : Mnemonic → Handler
  | .LDA => handleLda | .LDX => handleLdx | .LDY => handleLdy
  | .STA => handleSta | .STX => handleStx | .STY => handleSty
  | .TAX => handleTax | .TAY => handleTay | .TXA => handleTxa | .TYA => handleTya
  | .TSX => handleTsx | .TXS => handleTxs
  | .PHA => handlePha | .PLA => handlePla | .PHP => handlePhp | .PLP => handlePlp
  | .ADC => handleAdc | .SBC => handleSbc | .CMP => handleCmp | .CPX => handleCpx
  | .CPY => handleCpy | .INC => handleInc | .DEC => handleDec
  | .INX => handleInx | .INY => handleIny | .DEX => handleDex | .DEY => handleDey
  | .AND => handleAnd | .ORA => handleOra | .EOR => handleEor | .BIT => handleBit
  | .ASL => handleAsl | .LSR => handleLsr | .ROL => handleRol | .ROR => handleRor
  | .BCC => handleBcc | .BCS => handleBcs | .BEQ => handleBeq | .BNE => handleBne
  | .BMI => handleBmi | .BPL => handleBpl | .BVC => handleBvc | .BVS => handleBvs
  | .JMP => handleJmp | .JSR => handleJsr | .RTS => handleRts | .BRK => handleBrk
  | .RTI => handleRti
  | .CLC => handleClc | .SEC => handleSec | .CLI => handleCli | .SEI => handleSei
  | .CLD => handleCld | .SED => handleSed | .CLV => handleClv
  | _ => handleNop

/-- What an opcode and its operand do, by the opcode's class (R86, R147). -/
def runOpcode (op : Byte) (o : Operand) (s : State) : Result :=
  match (lookup op).opClass with
  | .documented => documented op o (handlerOf (lookup op).mnemonic) s
  | .illegal => illegal op o s

/-- The meaning of every instruction is what its opcode and operand do. -/
theorem exec_eq (i : Instr) (s : State) : exec i s = runOpcode i.code.opcode i.code.operand s := by
  cases i <;> dsimp only [Instr.code] <;> rfl

/-- A documented instruction: the common part of the step, then its mnemonic's handler (R86). -/
theorem exec_documented (i : Instr) (s : State) (h : i.isIllegal = false) :
    exec i s = documented i.code.opcode i.operand (handlerOf i.mnemonic) s := by
  rw [exec_eq, runOpcode]
  unfold Instr.isIllegal Instr.descriptor at h
  cases hc : (lookup i.code.opcode).opClass with
  | documented => rfl
  | illegal => rw [hc] at h; exact absurd h (by decide)

/-- An illegal instruction: the common part of the step, then the policy (R147). -/
theorem exec_illegal (i : Instr) (s : State) (h : i.isIllegal = true) :
    exec i s = illegal i.code.opcode i.operand s := by
  rw [exec_eq, runOpcode]
  unfold Instr.isIllegal Instr.descriptor at h
  cases hc : (lookup i.code.opcode).opClass with
  | documented => rw [hc] at h; exact absurd h (by decide)
  | illegal => rfl

/-- Every instruction answers a next state. -/
theorem exec_next (i : Instr) (s : State) : ∃ t, exec i s = .next t := by
  cases h : i.isIllegal with
  | false => exact ⟨_, exec_documented i s h⟩
  | true => exact ⟨_, exec_illegal i s h⟩

/-- Every instruction is well formed: an `Instr` is one row of the table with operand bytes as wide as the row's. -/
theorem instr_wellFormed (i : Instr) : i.wellFormed = true := by
  cases i <;> dsimp only [Instr.wellFormed, Instr.code, CodeWord.wellFormed, CodeWord.modeAgrees,
    Descriptor.sizeAgrees] <;> rfl

/-- An instruction and its table entry agree: the operand's mode, and the length of its bytes (R60, R65). -/
theorem instr_agrees (i : Instr) :
    i.operand.mode = i.descriptor.mode ∧ (encode i).length = i.descriptor.size := by
  have h := instr_wellFormed i
  simp only [Instr.wellFormed, CodeWord.wellFormed, CodeWord.modeAgrees, Descriptor.sizeAgrees,
    Bool.and_eq_true, beq_iff_eq] at h
  exact h

/-- A documented instruction of a mnemonic. -/
theorem isDocumented_iff (i : Instr) (m : Mnemonic) :
    i.isDocumented m = true ↔ i.isIllegal = false ∧ i.mnemonic = m := by
  unfold Instr.isDocumented Instr.isIllegal Instr.mnemonic
  rw [Bool.and_eq_true, beq_iff_eq, beq_iff_eq]
  cases h : i.descriptor.opClass <;> simp

/-- No opcode of class `illegal` has the mnemonic JMP (R66). -/
theorem illegal_not_jmp (op : Byte) :
    (lookup op).opClass = .illegal → (lookup op).mnemonic ≠ .JMP := by
  revert op; decide +kernel

/-- Only JMP has an indirect operand (R65, R82). -/
theorem operand_not_ind (i : Instr) (h : i.mnemonic ≠ .JMP) (w : Word) : i.operand ≠ .ind w := by
  intro hw
  have : i = .jmpInd w := by
    cases i <;> first | exact Operand.noConfusion hw | exact congrArg Instr.jmpInd (Operand.ind.inj hw)
  subst this
  exact h (show (lookup 0x6C).mnemonic = .JMP from rfl)

/-- Only the shifts and rotates have an accumulator operand (R72). -/
theorem operand_acc (i : Instr) (h : i.operand = .acc) :
    i = .aslAcc ∨ i = .lsrAcc ∨ i = .rolAcc ∨ i = .rorAcc := by
  cases i <;> first | exact Operand.noConfusion h | simp

/-- The branches, and they alone, have a relative operand (R83). -/
theorem operand_rel (i : Instr) (b : Byte) (h : i.operand = .rel b) :
    i = .bpl b ∨ i = .bmi b ∨ i = .bvc b ∨ i = .bvs b ∨ i = .bcc b ∨ i = .bcs b ∨ i = .bne b ∨
      i = .beq b := by
  cases i <;> first | exact Operand.noConfusion h | (injection h with h; subst h; simp)

/-! ### The resolver -/

/-- A page cross compares the addresses' pages (R84). -/
theorem pageCrossed_eq (base addr : Word) :
    pageCrossed base addr = decide (base.toNat / 256 ≠ addr.toNat / 256) := by
  rw [Bool.eq_iff_iff]
  simp only [pageCrossed, bne_iff_ne, decide_eq_true_eq, ne_eq, ← BitVec.toNat_inj, hi_toNat]

theorem readZeroPagePointer_eq (p : Byte) (s : State) :
    readZeroPagePointer p s = (wordOf (s.ram.read (p + 1).toNat) (s.ram.read p.toNat), s) := by
  have h : ∀ b : Byte, (zext16 b).toNat = b.toNat := fun b => by
    simp only [zext16, BitVec.toNat_setWidth]; omega
  have hl : ∀ b : Byte, (zext16 b).toNat < 0x2000 := fun b => by rw [h]; omega
  have hm : ∀ b : Byte, b.toNat % 2048 = b.toNat := fun b => by omega
  simp only [readZeroPagePointer, memReadPair, memRead_ram (hl _), h, hm]

/-- Resolving changes nothing, but for the two reads of an indirect jump's pointer (R52, R70). -/
theorem resolve_st (o : Operand) (s : State) (h : ∀ w, o ≠ .ind w) : (resolve o s).st = s := by
  cases o <;> first | rfl | exact absurd rfl (h _) | skip
  · simp only [resolve, readZeroPagePointer_eq, Resolved.plain]
  · simp only [resolve, readZeroPagePointer_eq, Resolved.indexed]

/-- The common part of the step, for every operand but an indirect pointer. -/
theorem startInstr_st (op : Byte) (o : Operand) (s : State) (h : ∀ w, o ≠ .ind w) :
    (startInstr op o s).st = { s with
      pc := s.pc + BitVec.ofNat 16 (lookup op).size
      cycles := s.cycles + tableCycles (lookup op) (resolve o s).crossed } := by
  simp only [startInstr, resolve_st o s h, State.setPc, State.addCycles]

/-- A documented instruction but JMP: its handler, on the effective address, with `PC` past the instruction and the table's cycles
counted. -/
theorem exec_handler (i : Instr) (s : State) (h : i.isIllegal = false) (hj : i.mnemonic ≠ .JMP) :
    exec i s = .next (handlerOf i.mnemonic i.operand (resolve i.operand s).addr { s with
      pc := s.pc + BitVec.ofNat 16 (encode i).length
      cycles := s.cycles + tableCycles i.descriptor (resolve i.operand s).crossed }) := by
  rw [exec_documented i s h, documented, startInstr_st _ _ _ (operand_not_ind i hj),
    (instr_agrees i).2]
  rfl

/-- An illegal instruction: the policy, with `PC` past the instruction and the table's cycles counted (R147). -/
theorem exec_policy (i : Instr) (s : State) (h : i.isIllegal = true) :
    exec i s = .next (executeIllegal i.code.opcode s.pc { s with
      pc := s.pc + BitVec.ofNat 16 (encode i).length
      cycles := s.cycles + tableCycles i.descriptor (resolve i.operand s).crossed }) := by
  have hj : i.mnemonic ≠ .JMP := illegal_not_jmp _ (by
    simpa [Instr.isIllegal, Instr.descriptor] using h)
  rw [exec_illegal i s h, illegal, startInstr_st _ _ _ (operand_not_ind i hj), (instr_agrees i).2]
  rfl

@[simp] theorem startInstr_addr (op : Byte) (o : Operand) (s : State) :
    (startInstr op o s).addr = (resolve o s).addr := rfl

end Sys2Proof.Machine
end

