-- ==== Sys2Proof/Laws/Sequencer.lean ====
section
/-! SUPPORT. What one dot of the PPU can change, and the parts of it that proofs use: the counters, the delivered NMI, the vblank
flag, the sprite flags, the scroll address. -/

namespace Sys2Proof.Machine

/-- A fetch event changes `v` or one fetch latch, and nothing else (R177, R178). -/
theorem fetchEvent_frame (s : State) :
    fetchEvent s = { s with ppu := { s.ppu with
      v := (fetchEvent s).ppu.v
      ntLatch := (fetchEvent s).ppu.ntLatch, atLatch := (fetchEvent s).ppu.atLatch
      loLatch := (fetchEvent s).ppu.loLatch, hiLatch := (fetchEvent s).ppu.hiLatch } } := by
  unfold fetchEvent
  split
  · split <;> rfl
  · rfl

/-- A scroll event changes `v` and nothing else (R179 to R181). -/
theorem scrollEvents_frame (p : Ppu) : p.scrollEvents = { p with v := p.scrollEvents.v } := by
  unfold Ppu.scrollEvents
  repeat' split
  all_goals rfl

/-- A sprite flag event changes the sprite flags and the draw counter (R182). -/
theorem spriteFlagEvent_frame (s : State) :
    spriteFlagEvent s = { s with
      ppu := { s.ppu with
        sprite0Hit := (spriteFlagEvent s).ppu.sprite0Hit
        spriteOverflow := (spriteFlagEvent s).ppu.spriteOverflow }
      draws := (spriteFlagEvent s).draws } := by
  unfold spriteFlagEvent
  split <;> rfl

/-- A vertical-blank event changes the status flags and the edge detector (R176). -/
theorem vblankEvents_frame (delay : Nat) (p : Ppu) :
    p.vblankEvents delay = { p with
      nmiOccurred := (p.vblankEvents delay).nmiOccurred
      sprite0Hit := (p.vblankEvents delay).sprite0Hit
      spriteOverflow := (p.vblankEvents delay).spriteOverflow
      nmiPrevious := (p.vblankEvents delay).nmiPrevious
      nmiDelay := (p.vblankEvents delay).nmiDelay } := by
  unfold Ppu.vblankEvents
  repeat' split
  all_goals rfl

/-- The counter advance changes the counters and the parity (R175). -/
theorem advance_frame (skip : Bool) (p : Ppu) :
    p.advance skip = { p with
      dot := (p.advance skip).dot, scanline := (p.advance skip).scanline
      frame := (p.advance skip).frame, oddFrame := (p.advance skip).oddFrame } := by
  unfold Ppu.advance
  repeat' split
  all_goals rfl

/-- The PPU at the position a dot arrives at, before the dot's events. -/
def Ppu.arrive (skip : Bool) (p : Ppu) : Ppu :=
  Ppu.advance skip { p with nmiDelay := p.nmiDelay - 1 }

/-- The state after a dot's countdown, advance and vertical-blank events. -/
def afterVblank (s : State) : State :=
  { s with
    ppu := (s.ppu.arrive s.cfg.oddSkipRequiresRendering).vblankEvents s.cfg.nmiDelay
    pending := if s.ppu.nmiDelivers then some .nmi else s.pending }

/-- A dot is its countdown, advance and vertical-blank events, then fetch, scroll and sprite-flag events (R174). -/
theorem ppuStep_eq (s : State) :
    ppuStep s = spriteFlagEvent
      ((fetchEvent (afterVblank s)).setPpu (fetchEvent (afterVblank s)).ppu.scrollEvents) := rfl

/-- What one dot can change: the slot, the draw counter, and in the PPU the scroll address, the latches, the status flags, the
edge detector and the counters; nothing else. -/
theorem ppuStep_frame (s : State) :
    ppuStep s = { s with
      ppu := { s.ppu with
        v := (ppuStep s).ppu.v
        ntLatch := (ppuStep s).ppu.ntLatch, atLatch := (ppuStep s).ppu.atLatch
        loLatch := (ppuStep s).ppu.loLatch, hiLatch := (ppuStep s).ppu.hiLatch
        nmiOccurred := (ppuStep s).ppu.nmiOccurred
        sprite0Hit := (ppuStep s).ppu.sprite0Hit, spriteOverflow := (ppuStep s).ppu.spriteOverflow
        nmiPrevious := (ppuStep s).ppu.nmiPrevious, nmiDelay := (ppuStep s).ppu.nmiDelay
        dot := (ppuStep s).ppu.dot, scanline := (ppuStep s).ppu.scanline
        frame := (ppuStep s).ppu.frame, oddFrame := (ppuStep s).ppu.oddFrame }
      pending := (ppuStep s).pending
      draws := (ppuStep s).draws } := by
  have h : ∃ v nt at' lo hi occ hit ovf prev delay dot line frame odd pending draws,
      ppuStep s = { s with
        ppu := { s.ppu with
          v := v, ntLatch := nt, atLatch := at', loLatch := lo, hiLatch := hi, nmiOccurred := occ
          sprite0Hit := hit, spriteOverflow := ovf, nmiPrevious := prev, nmiDelay := delay
          dot := dot, scanline := line, frame := frame, oddFrame := odd }
        pending := pending, draws := draws } := by
    rw [ppuStep_eq, spriteFlagEvent_frame, scrollEvents_frame, fetchEvent_frame, afterVblank,
      vblankEvents_frame, Ppu.arrive, advance_frame]
    exact ⟨_, _, _, _, _, _, _, _, _, _, _, _, _, _, _, _, rfl⟩
  obtain ⟨_, _, _, _, _, _, _, _, _, _, _, _, _, _, _, _, h⟩ := h
  rw [h]

/-- The counters after a dot are those of the advance (R175). -/
theorem ppuStep_counters (s : State) :
    (ppuStep s).ppu.dot = (s.ppu.arrive s.cfg.oddSkipRequiresRendering).dot ∧
    (ppuStep s).ppu.scanline = (s.ppu.arrive s.cfg.oddSkipRequiresRendering).scanline ∧
    (ppuStep s).ppu.frame = (s.ppu.arrive s.cfg.oddSkipRequiresRendering).frame ∧
    (ppuStep s).ppu.oddFrame = (s.ppu.arrive s.cfg.oddSkipRequiresRendering).oddFrame := by
  rw [ppuStep_eq, spriteFlagEvent_frame, scrollEvents_frame, fetchEvent_frame, afterVblank,
    vblankEvents_frame]
  exact ⟨rfl, rfl, rfl, rfl⟩

/-- The vblank flag and the edge detector after a dot are those of the vertical-blank events (R176). -/
theorem ppuStep_vblank (s : State) :
    (ppuStep s).ppu.nmiOccurred = (afterVblank s).ppu.nmiOccurred ∧
    (ppuStep s).ppu.nmiPrevious = (afterVblank s).ppu.nmiPrevious ∧
    (ppuStep s).ppu.nmiDelay = (afterVblank s).ppu.nmiDelay := by
  rw [ppuStep_eq, spriteFlagEvent_frame, scrollEvents_frame, fetchEvent_frame]
  exact ⟨rfl, rfl, rfl⟩

/-- The slot after a dot (R173). -/
theorem ppuStep_pending (s : State) :
    (ppuStep s).pending = if s.ppu.nmiDelivers then some .nmi else s.pending := by
  rw [ppuStep_eq, spriteFlagEvent_frame, fetchEvent_frame]
  rfl

/-- The scroll address after a dot is that of the fetch and scroll events (R178 to R181). -/
theorem ppuStep_v (s : State) :
    (ppuStep s).ppu.v = (fetchEvent (afterVblank s)).ppu.scrollEvents.v := by
  rw [ppuStep_eq, spriteFlagEvent_frame]
  rfl

/-- The fetch latches after a dot are those of the fetch event (R177). -/
theorem ppuStep_latches (s : State) :
    (ppuStep s).ppu.ntLatch = (fetchEvent (afterVblank s)).ppu.ntLatch ∧
    (ppuStep s).ppu.atLatch = (fetchEvent (afterVblank s)).ppu.atLatch ∧
    (ppuStep s).ppu.loLatch = (fetchEvent (afterVblank s)).ppu.loLatch ∧
    (ppuStep s).ppu.hiLatch = (fetchEvent (afterVblank s)).ppu.hiLatch := by
  rw [ppuStep_eq, spriteFlagEvent_frame, scrollEvents_frame]
  exact ⟨rfl, rfl, rfl, rfl⟩

section
variable (s : State)

@[simp] theorem ppuStep_a : (ppuStep s).a = s.a := by rw [ppuStep_frame]
@[simp] theorem ppuStep_x : (ppuStep s).x = s.x := by rw [ppuStep_frame]
@[simp] theorem ppuStep_y : (ppuStep s).y = s.y := by rw [ppuStep_frame]
@[simp] theorem ppuStep_sp : (ppuStep s).sp = s.sp := by rw [ppuStep_frame]
@[simp] theorem ppuStep_pc : (ppuStep s).pc = s.pc := by rw [ppuStep_frame]
@[simp] theorem ppuStep_p : (ppuStep s).p = s.p := by rw [ppuStep_frame]
@[simp] theorem ppuStep_cycles : (ppuStep s).cycles = s.cycles := by rw [ppuStep_frame]
@[simp] theorem ppuStep_fault : (ppuStep s).fault = s.fault := by rw [ppuStep_frame]
@[simp] theorem ppuStep_diag : (ppuStep s).diag = s.diag := by rw [ppuStep_frame]
@[simp] theorem ppuStep_ram : (ppuStep s).ram = s.ram := by rw [ppuStep_frame]
@[simp] theorem ppuStep_cart : (ppuStep s).cart = s.cart := by rw [ppuStep_frame]
@[simp] theorem ppuStep_cfg : (ppuStep s).cfg = s.cfg := by rw [ppuStep_frame]
@[simp] theorem ppuStep_irqInput : (ppuStep s).irqInput = s.irqInput := by rw [ppuStep_frame]
@[simp] theorem ppuStep_t : (ppuStep s).ppu.t = s.ppu.t := by rw [ppuStep_frame]
@[simp] theorem ppuStep_fineX : (ppuStep s).ppu.x = s.ppu.x := by rw [ppuStep_frame]
@[simp] theorem ppuStep_ctrl : (ppuStep s).ppu.ctrl = s.ppu.ctrl := by rw [ppuStep_frame]
@[simp] theorem ppuStep_mask : (ppuStep s).ppu.mask = s.ppu.mask := by rw [ppuStep_frame]
@[simp] theorem ppuStep_vram : (ppuStep s).ppu.vram = s.ppu.vram := by rw [ppuStep_frame]
@[simp] theorem ppuStep_palette : (ppuStep s).ppu.palette = s.ppu.palette := by rw [ppuStep_frame]
@[simp] theorem ppuStep_oam : (ppuStep s).ppu.oam = s.ppu.oam := by rw [ppuStep_frame]

end

/-- The last dot of a run, by itself. -/
theorem ppuRun_succ (n : Nat) (s : State) : ppuRun (n + 1) s = ppuStep (ppuRun n s) := by
  induction n generalizing s with
  | zero => rfl
  | succ n ih => rw [ppuRun, ih, ← ppuRun]

/-- What every dot keeps, a run of dots keeps. -/
theorem ppuRun_induction {P : State → Prop} (hP : ∀ s, P s → P (ppuStep s)) (n : Nat) {s : State}
    (hs : P s) : P (ppuRun n s) := by
  induction n generalizing s with
  | zero => exact hs
  | succ n ih => exact ih (hP s hs)

/-- What no dot changes, no run of dots changes. -/
theorem ppuRun_keeps {α : Type} (f : State → α) (hf : ∀ s, f (ppuStep s) = f s) (n : Nat)
    (s : State) : f (ppuRun n s) = f s := by
  induction n generalizing s with
  | zero => rfl
  | succ n ih => rw [ppuRun, ih, hf]

@[simp] theorem ppuRun_cycles (n : Nat) (s : State) : (ppuRun n s).cycles = s.cycles :=
  ppuRun_keeps State.cycles ppuStep_cycles n s
@[simp] theorem ppuRun_fault (n : Nat) (s : State) : (ppuRun n s).fault = s.fault :=
  ppuRun_keeps State.fault ppuStep_fault n s
@[simp] theorem ppuRun_cart (n : Nat) (s : State) : (ppuRun n s).cart = s.cart :=
  ppuRun_keeps State.cart ppuStep_cart n s
@[simp] theorem ppuRun_cfg (n : Nat) (s : State) : (ppuRun n s).cfg = s.cfg :=
  ppuRun_keeps State.cfg ppuStep_cfg n s
@[simp] theorem ppuRun_ram (n : Nat) (s : State) : (ppuRun n s).ram = s.ram :=
  ppuRun_keeps State.ram ppuStep_ram n s

end Sys2Proof.Machine
end

