-- ==== Sys2Proof/Laws/Step.lean ====
section
/-! SUPPORT. What a bus write, an instruction, a fetch and a step can do, said once: a property that bus accesses keep, that does not
look at the CPU, and that dots keep, is kept by every step. -/

namespace Sys2Proof.Machine

/-! ### Bus writes -/

/-- A PPU register write changes the PPU and the cartridge, and nothing else. -/
theorem ppuRegWrite_frame (r : PpuReg) (d : Byte) (s : State) :
    ppuRegWrite r d s =
      { s with ppu := (ppuRegWrite r d s).ppu, cart := (ppuRegWrite r d s).cart } := by
  cases r <;> first | rfl | skip
  show ppuDataWrite _ _ = { s with ppu := (ppuDataWrite _ _).ppu, cart := (ppuDataWrite _ _).cart }
  unfold ppuDataWrite ppuWrite
  dsimp only
  split <;> rfl

/-- The copy loop of OAM DMA changes the PPU, the log and the draw counter, and nothing else (R184). -/
theorem dmaCopy_frame (d : Byte) (n i : Nat) (s : State) :
    dmaCopy d n i s = { s with
      ppu := (dmaCopy d n i s).ppu, diag := (dmaCopy d n i s).diag, draws := (dmaCopy d n i s).draws } := by
  induction n generalizing i s with
  | zero => rfl
  | succ n ih =>
    rw [dmaCopy, ih]
    have h := (memRead_frame (wordOf d (BitVec.ofNat 8 i)) s).1
    simp only [State.setPpu]
    rw [h]

/-- A bus write leaves the CPU's registers, the slot, the fault, the parameters and the IRQ samples alone; it never lowers the cycle
counter. -/
theorem memWrite_frame (a : Word) (d : Byte) (s : State) :
    memWrite a d s = { s with
      cycles := (memWrite a d s).cycles, ppu := (memWrite a d s).ppu, ram := (memWrite a d s).ram
      cart := (memWrite a d s).cart, diag := (memWrite a d s).diag, draws := (memWrite a d s).draws } ∧
    s.cycles ≤ (memWrite a d s).cycles := by
  unfold memWrite
  dsimp only
  split <;> first | exact ⟨rfl, Nat.le_refl _⟩ | skip
  · rw [ppuRegWrite_frame]
    exact ⟨rfl, Nat.le_refl _⟩
  · simp only [oamDma, State.addCycles]
    rw [dmaCopy_frame]
    exact ⟨rfl, by dsimp only; omega⟩

@[simp] theorem memWrite_p (a : Word) (d : Byte) (s : State) : (memWrite a d s).p = s.p := by
  rw [(memWrite_frame a d s).1]

/-! ### Properties that do not look at the CPU -/

/-- The two states agree outside the CPU: work RAM, PPU, cartridge and parameters. -/
def State.SameOutside (s t : State) : Prop :=
  t.ram = s.ram ∧ t.ppu = s.ppu ∧ t.cart = s.cart ∧ t.cfg = s.cfg

/-- A property that does not look at the CPU, and that every bus access keeps. -/
structure KeptByBus (P : State → Prop) : Prop where
  outside : ∀ {s t : State}, s.SameOutside t → P s → P t
  read : ∀ (a : Word) {s : State}, P s → P (memRead a s).2
  write : ∀ (a : Word) (d : Byte) {s : State}, P s → P (memWrite a d s)

section
variable {P : State → Prop} (hP : KeptByBus P) {s : State}
include hP

theorem KeptByBus.set {t : State} (h : P s) (e : s.SameOutside t) : P t := hP.outside e h

theorem KeptByBus.loadOperand (o : Operand) (addr : Word) (h : P s) : P (loadOperand o addr s).2 := by
  unfold Machine.loadOperand
  split <;> first | exact h | exact hP.read _ h

theorem KeptByBus.storeOperand (o : Operand) (addr : Word) (r : Byte) (h : P s) :
    P (storeOperand o addr r s) := by
  unfold Machine.storeOperand
  split
  · exact hP.set h ⟨rfl, rfl, rfl, rfl⟩
  · exact hP.write _ _ h

theorem KeptByBus.push (d : Byte) (h : P s) : P (push d s) :=
  hP.set (hP.write (stackAddress s.sp) d h) ⟨rfl, rfl, rfl, rfl⟩

theorem KeptByBus.pop (h : P s) : P (pop s).2 :=
  hP.read _ (hP.set h ⟨rfl, rfl, rfl, rfl⟩)

theorem KeptByBus.push16 (w : Word) (h : P s) : P (push16 w s) := hP.push _ (hP.push _ h)

theorem KeptByBus.pop16 (h : P s) : P (pop16 s).2 := hP.pop (hP.pop h)

theorem KeptByBus.memReadPair (low high : Word) (h : P s) : P (memReadPair low high s).2 :=
  hP.read _ (hP.read _ h)

theorem KeptByBus.takeException (ret : Word) (status : Byte) (vector : Word) (h : P s) :
    P (takeException ret status vector s) := by
  have h1 := hP.push status (hP.push16 ret h)
  have h2 : P ((Machine.push status (Machine.push16 ret s)).setP
      { (Machine.push status (Machine.push16 ret s)).p with i := true }) :=
    hP.set h1 ⟨rfl, rfl, rfl, rfl⟩
  exact hP.set (hP.memReadPair vector (vector + 1) h2) ⟨rfl, rfl, rfl, rfl⟩

theorem KeptByBus.returnFromException (h : P s) : P (returnFromException s) := by
  have h1 : P ((Machine.pop s).2.setP (Flags.fromByte (Machine.pop s).1)) :=
    hP.set (hP.pop h) ⟨rfl, rfl, rfl, rfl⟩
  exact hP.set (hP.pop16 h1) ⟨rfl, rfl, rfl, rfl⟩

theorem KeptByBus.serviceInterrupt (k : Interrupt) (h : P s) : P (serviceInterrupt k s) := by
  have h1 : P (s.setPending none) := hP.set h ⟨rfl, rfl, rfl, rfl⟩
  exact hP.set (hP.takeException s.pc (s.p.toByte &&& 0xEF) k.vector h1) ⟨rfl, rfl, rfl, rfl⟩

theorem KeptByBus.resolve (o : Operand) (h : P s) : P (resolve o s).st := by
  cases o <;> first | exact h | exact hP.memReadPair _ _ h

theorem KeptByBus.startInstr (op : Byte) (o : Operand) (h : P s) : P (startInstr op o s).st :=
  hP.set (hP.resolve o h) ⟨rfl, rfl, rfl, rfl⟩

theorem KeptByBus.loadInto {set : Byte → State → State}
    (hs : ∀ v (s : State), s.SameOutside (set v s)) (o : Operand) (addr : Word) (h : P s) :
    P (loadInto set o addr s) := by
  have h1 := hP.set (hP.loadOperand o addr h) (hs (Machine.loadOperand o addr s).1 _)
  exact hP.set h1 ⟨rfl, rfl, rfl, rfl⟩

theorem KeptByBus.transfer {get : State → Byte} {set : Byte → State → State}
    (hs : ∀ v (s : State), s.SameOutside (set v s)) (o : Operand) (addr : Word) (h : P s) :
    P (transfer get set o addr s) := by
  have h1 := hP.set h (hs (get s) s)
  exact hP.set h1 ⟨rfl, rfl, rfl, rfl⟩

theorem KeptByBus.accumulate (f : Byte → Byte → Flags → Alu) (o : Operand) (addr : Word) (h : P s) :
    P (accumulate f o addr s) := by
  have h1 := hP.loadOperand o addr h
  exact hP.set h1 ⟨rfl, rfl, rfl, rfl⟩

theorem KeptByBus.compareWith (get : State → Byte) (o : Operand) (addr : Word) (h : P s) :
    P (compareWith get o addr s) := by
  have h1 := hP.loadOperand o addr h
  exact hP.set h1 ⟨rfl, rfl, rfl, rfl⟩

theorem KeptByBus.modify (f : Byte → Flags → Alu) (o : Operand) (addr : Word) (h : P s) :
    P (modify f o addr s) := by
  have h1 := hP.storeOperand o addr
    (f (Machine.loadOperand o addr s).1 (Machine.loadOperand o addr s).2.p).value
    (hP.loadOperand o addr h)
  exact hP.set h1 ⟨rfl, rfl, rfl, rfl⟩

theorem KeptByBus.modifyRegister {get : State → Byte} {set : Byte → State → State}
    {f : Byte → Flags → Alu} (hs : ∀ v (s : State), s.SameOutside (set v s)) (o : Operand)
    (addr : Word) (h : P s) : P (modifyRegister get set f o addr s) := by
  have h1 := hP.set h (hs (f (get s) s.p).value s)
  exact hP.set h1 ⟨rfl, rfl, rfl, rfl⟩

theorem KeptByBus.branch (cond : Flags → Bool) (o : Operand) (addr : Word) (h : P s) :
    P (branch cond o addr s) := by
  unfold Machine.branch
  split
  · exact hP.set h ⟨rfl, rfl, rfl, rfl⟩
  · exact h

/-- Every handler keeps what the bus keeps. -/
theorem KeptByBus.handler (m : Mnemonic) (o : Operand) (addr : Word) (h : P s) :
    P (handlerOf m o addr s) := by
  cases m
  case LDA | LDX | LDY =>
    dsimp only [handlerOf, handleLda, handleLdx, handleLdy]
    refine hP.loadInto ?_ o addr h
    exact fun _ _ => ⟨rfl, rfl, rfl, rfl⟩
  case STA | STX | STY => exact hP.write addr _ h
  case TAX | TAY | TXA | TYA | TSX =>
    dsimp only [handlerOf, handleTax, handleTay, handleTxa, handleTya, handleTsx]
    refine hP.transfer ?_ o addr h
    exact fun _ _ => ⟨rfl, rfl, rfl, rfl⟩
  case PHA | PHP => exact hP.push _ h
  case PLA | PLP => exact hP.set (hP.pop h) ⟨rfl, rfl, rfl, rfl⟩
  case ADC | SBC | AND | ORA | EOR =>
    dsimp only [handlerOf, handleAdc, handleSbc, handleAnd, handleOra, handleEor]
    exact hP.accumulate _ o addr h
  case CMP | CPX | CPY => exact hP.compareWith _ o addr h
  case BIT => exact hP.set (hP.loadOperand o addr h) ⟨rfl, rfl, rfl, rfl⟩
  case INC | DEC | ASL | LSR | ROL | ROR => exact hP.modify _ o addr h
  case INX | INY | DEX | DEY =>
    dsimp only [handlerOf, handleInx, handleIny, handleDex, handleDey]
    refine hP.modifyRegister ?_ o addr h
    exact fun _ _ => ⟨rfl, rfl, rfl, rfl⟩
  case BCC | BCS | BEQ | BNE | BMI | BPL | BVC | BVS =>
    dsimp only [handlerOf, handleBcc, handleBcs, handleBeq, handleBne, handleBmi, handleBpl, handleBvc,
      handleBvs]
    exact hP.branch _ o addr h
  case JSR => exact hP.set (hP.push16 _ h) ⟨rfl, rfl, rfl, rfl⟩
  case RTS => exact hP.set (hP.pop16 h) ⟨rfl, rfl, rfl, rfl⟩
  case BRK => exact hP.takeException _ _ _ h
  case RTI => exact hP.returnFromException h
  case TXS | JMP | CLC | SEC | CLI | SEI | CLD | SED | CLV =>
    exact hP.set h ⟨rfl, rfl, rfl, rfl⟩
  all_goals exact h

/-- Every instruction keeps what the bus keeps. -/
theorem KeptByBus.exec (i : Instr) {t : State} (h : P s) (e : Machine.exec i s = .next t) : P t := by
  cases hi : i.isIllegal with
  | false =>
    rw [exec_documented i s hi, documented] at e
    cases e
    exact hP.handler _ _ _ (hP.startInstr _ _ h)
  | true =>
    rw [exec_illegal i s hi, illegal] at e
    cases e
    have h1 := hP.startInstr i.code.opcode i.operand h
    unfold executeIllegal
    split
    · exact hP.set h1 ⟨rfl, rfl, rfl, rfl⟩
    · exact hP.set h1 ⟨rfl, rfl, rfl, rfl⟩

/-- A fetch keeps what the bus keeps. -/
theorem KeptByBus.fetch (h : P s) : P (fetch s).2 := by
  have h1 := hP.read s.pc h
  unfold Machine.fetch
  dsimp only
  split
  · exact h1
  · dsimp only
    split
    · exact hP.read _ h1
    · exact h1
  · exact hP.memReadPair _ _ h1

end

/-! ### The step -/

theorem sampleIrq_outside (s : State) : s.SameOutside (sampleIrq s) := by
  unfold sampleIrq
  dsimp only
  split <;> exact ⟨rfl, rfl, rfl, rfl⟩

theorem dropMasked_outside (s : State) : s.SameOutside (dropMasked s) := by
  unfold dropMasked
  split <;> exact ⟨rfl, rfl, rfl, rfl⟩

/-- What a step that answers did: no fault was recorded, and after the IRQ sample it serviced an interrupt or ran the fetched
instruction, then the dots of its cycles (R69, R186). -/
theorem step_cases {s t : State} (h : step s = .next t) :
    s.fault = none ∧ ∃ u,
      ((∃ k, serviceable (sampleIrq s).pending (sampleIrq s).p.i = some k ∧
          u = serviceInterrupt k (sampleIrq s)) ∨
        (serviceable (sampleIrq s).pending (sampleIrq s).p.i = none ∧
          exec (fetch (dropMasked (sampleIrq s))).1 (fetch (dropMasked (sampleIrq s))).2 = .next u)) ∧
      t = ppuRun (3 * (u.cycles - s.cycles)) u := by
  unfold step at h
  cases hf : s.fault with
  | some r => rw [hf] at h; cases h
  | none =>
    rw [hf] at h
    refine ⟨rfl, ?_⟩
    unfold cpuStep at h
    cases hk : serviceable (sampleIrq s).pending (sampleIrq s).p.i with
    | some k =>
      rw [hk] at h
      cases h
      exact ⟨_, .inl ⟨k, rfl, rfl⟩, rfl⟩
    | none =>
      rw [hk] at h
      dsimp only at h
      obtain ⟨u, hu⟩ := exec_next (fetch (dropMasked (sampleIrq s))).1
        (fetch (dropMasked (sampleIrq s))).2
      rw [hu] at h
      cases h
      exact ⟨u, .inr ⟨rfl, hu⟩, rfl⟩

/-- What bus accesses and dots keep, and what does not look at the CPU, every step keeps. -/
theorem KeptByBus.step {P : State → Prop} (hP : KeptByBus P) (hdot : ∀ s, P s → P (ppuStep s))
    {s t : State} (h : P s) (e : Machine.step s = .next t) : P t := by
  obtain ⟨-, u, hu, rfl⟩ := step_cases e
  have h1 := hP.outside (sampleIrq_outside s) h
  refine ppuRun_induction hdot _ ?_
  rcases hu with ⟨k, -, rfl⟩ | ⟨-, hx⟩
  · exact hP.serviceInterrupt k h1
  · exact hP.exec _ (hP.fetch (hP.outside (dropMasked_outside _) h1)) hx

/-- A step, from a state without a recorded fault, always answers a next state. -/
theorem step_next {s : State} (h : s.fault = none) : ∃ t, step s = .next t := by
  unfold step
  rw [h]
  unfold cpuStep
  cases serviceable (sampleIrq s).pending (sampleIrq s).p.i with
  | some k => exact ⟨_, rfl⟩
  | none =>
    obtain ⟨u, hu⟩ := exec_next (fetch (dropMasked (sampleIrq s))).1 (fetch (dropMasked (sampleIrq s))).2
    dsimp only
    rw [hu]
    exact ⟨_, rfl⟩

end Sys2Proof.Machine
end

