-- ==== Sys2Proof/Laws/Wf.lean ====
section
/-! SUPPORT. The memories keep their canonical form and their sizes: under every bus access, every dot, every instruction and every
step; and the reset state has them so. -/

namespace Sys2Proof.Machine

/-- Every memory is canonical and inside its size. -/
def State.MemoriesOk (s : State) : Prop := s.memoriesWf = true ∧ s.memoriesInRange = true

theorem memoriesOk_iff (s : State) :
    s.MemoriesOk ↔
      (s.ram.wf = true ∧ s.ram.below 2048 = true) ∧
      ((s.cart.prg.wf = true ∧ s.cart.prg.below s.cart.prgSize = true) ∧
        (s.cart.chr.wf = true ∧ s.cart.chr.below s.cart.chrSize = true)) ∧
      (s.cart.prgRam.wf = true ∧ s.cart.prgRam.below 8192 = true) ∧
      (s.ppu.vram.wf = true ∧ s.ppu.vram.below 4096 = true) ∧
      (s.ppu.palette.wf = true ∧ s.ppu.palette.below 32 = true) ∧
      (s.ppu.oam.wf = true ∧ s.ppu.oam.below 256 = true) := by
  unfold State.MemoriesOk State.memoriesWf State.memoriesInRange
  simp only [Bool.and_eq_true]
  tauto

theorem reset_memoriesOk : State.reset.MemoriesOk := ⟨rfl, rfl⟩

/-- Only the memories matter. -/
theorem State.MemoriesOk.congr {s t : State} (h : s.MemoriesOk) (hr : t.ram = s.ram) (hc : t.cart = s.cart)
    (hv : t.ppu.vram = s.ppu.vram) (hp : t.ppu.palette = s.ppu.palette)
    (ho : t.ppu.oam = s.ppu.oam) : t.MemoriesOk := by
  rw [memoriesOk_iff] at *
  rw [hr, hc, hv, hp, ho]
  exact h

theorem memRead_memoriesOk (a : Word) {s : State} (h : s.MemoriesOk) : (memRead a s).2.MemoriesOk :=
  h.congr (memRead_memory a s) (memRead_cart a s) (memRead_vram a s) (memRead_palette a s)
    (memRead_oam a s)

theorem ppuWrite_memoriesOk (a : Word) (d : Byte) {s : State} (h : s.MemoriesOk) :
    (ppuWrite a d s).MemoriesOk := by
  have hlt := ppuTranslate_lt s.cart.mirror a
  have h0 := h
  rw [memoriesOk_iff] at h
  obtain ⟨h1, ⟨h2, h3⟩, h4, h5, h6, h7⟩ := h
  unfold ppuWrite
  dsimp only
  cases hs : (ppuTranslate s.cart.mirror a).subsystem <;> rw [hs] at hlt <;> dsimp only at hlt ⊢
  · unfold chrWrite
    split
    · rename_i hram
      have hsize : s.cart.chrSize = 0x2000 := if_pos hram
      rw [memoriesOk_iff]
      exact ⟨h1, ⟨h2, Memory.wf_write h3.1 _ _, Memory.below_write h3.2 (hsize ▸ hlt) _⟩, h4, h5, h6, h7⟩
    · exact h0
  · rw [memoriesOk_iff]
    exact ⟨h1, ⟨h2, h3⟩, h4, ⟨Memory.wf_write h5.1 _ _, Memory.below_write h5.2 hlt _⟩, h6, h7⟩
  · rw [memoriesOk_iff]
    exact ⟨h1, ⟨h2, h3⟩, h4, h5, ⟨Memory.wf_write h6.1 _ _, Memory.below_write h6.2 hlt _⟩, h7⟩

theorem oamWrite_memoriesOk (k : Byte) (d : Byte) (p : Ppu) {s : State} (h : s.MemoriesOk)
    (hv : p.vram = s.ppu.vram) (hp : p.palette = s.ppu.palette)
    (ho : p.oam = s.ppu.oam.write k.toNat d) : (s.setPpu p).MemoriesOk := by
  rw [memoriesOk_iff] at *
  obtain ⟨h1, h2, h4, h5, h6, h7⟩ := h
  simp only [State.setPpu, hv, hp, ho]
  exact ⟨h1, h2, h4, h5, h6, Memory.wf_write h7.1 _ _, Memory.below_write h7.2 k.isLt _⟩

theorem ppuRegWrite_memoriesOk (r : PpuReg) (d : Byte) {s : State} (h : s.MemoriesOk) :
    (ppuRegWrite r d s).MemoriesOk := by
  cases r
  case oamData => exact oamWrite_memoriesOk s.ppu.oamAddr d _ h rfl rfl rfl
  case data =>
    have h1 := ppuWrite_memoriesOk (Ppu.dataAddress { s.ppu with regLatch := d }) d
      (s := s.setPpu { s.ppu with regLatch := d }) (h.congr rfl rfl rfl rfl rfl)
    exact h1.congr rfl rfl rfl rfl rfl
  case scroll =>
    refine h.congr rfl rfl ?_ ?_ ?_ <;>
    · simp only [ppuRegWrite, State.setPpu, Ppu.writeScroll]
      split <;> rfl
  case addr =>
    refine h.congr rfl rfl ?_ ?_ ?_ <;>
    · simp only [ppuRegWrite, State.setPpu, Ppu.writeAddr]
      split <;> rfl
  all_goals exact h.congr rfl rfl rfl rfl rfl

theorem dmaCopy_memoriesOk (d : Byte) (n i : Nat) {s : State} (h : s.MemoriesOk) :
    (dmaCopy d n i s).MemoriesOk := by
  induction n generalizing i s with
  | zero => exact h
  | succ n ih =>
    exact ih (i + 1) (oamWrite_memoriesOk _ _ _ (memRead_memoriesOk _ h) rfl rfl rfl)

theorem cpuTranslate_ram_lt (a : Word) (h : (cpuTranslate a).subsystem = .ram) :
    (cpuTranslate a).offset.toNat < 2048 := by
  unfold cpuTranslate at *
  split
  · rw [BitVec.toNat_and]
    exact lt_of_le_of_lt Nat.and_le_right (by decide)
  · rename_i h0
    rw [if_neg h0] at h
    repeat' split at h
    all_goals cases h

theorem cpuTranslate_mapper_eq (a : Word) (h : (cpuTranslate a).subsystem = .mapper) :
    (cpuTranslate a).offset = a := by
  unfold cpuTranslate at *
  repeat' split at h
  all_goals first | (cases h; done) | skip
  simp only [*, if_false]

theorem memWrite_memoriesOk (a : Word) (d : Byte) {s : State} (h : s.MemoriesOk) :
    (memWrite a d s).MemoriesOk := by
  have h0 := h
  rw [memoriesOk_iff] at h
  obtain ⟨h1, ⟨h2, h3⟩, h4, h5, h6, h7⟩ := h
  unfold memWrite
  dsimp only
  cases hs : (cpuTranslate a).subsystem <;> dsimp only
  · rw [memoriesOk_iff]
    exact ⟨⟨Memory.wf_write h1.1 _ _, Memory.below_write h1.2 (cpuTranslate_ram_lt a hs) _⟩,
      ⟨h2, h3⟩, h4, h5, h6, h7⟩
  · exact ppuRegWrite_memoriesOk _ _ h0
  · exact (dmaCopy_memoriesOk d 256 0 h0).congr rfl rfl rfl rfl rfl
  · exact h0
  · exact h0
  · exact h0
  · exact h0.congr rfl rfl rfl rfl rfl
  · rw [cpuTranslate_mapper_eq a hs]
    unfold mapperWrite
    split
    · rename_i hlt
      have hlt' : a.toNat < 0x8000 := by simpa [BitVec.lt_def] using hlt
      rw [memoriesOk_iff]
      exact ⟨h1, ⟨h2, h3⟩, ⟨Memory.wf_write h4.1 _ _, Memory.below_write h4.2 (by omega) _⟩, h5, h6, h7⟩
    · exact h0

theorem memoriesOk_keptByBus : KeptByBus State.MemoriesOk where
  outside e h := h.congr e.1 e.2.2.1 (by rw [e.2.1]) (by rw [e.2.1]) (by rw [e.2.1])
  read a _ h := memRead_memoriesOk a h
  write a d _ h := memWrite_memoriesOk a d h

theorem ppuStep_memoriesOk {s : State} (h : s.MemoriesOk) : (ppuStep s).MemoriesOk :=
  h.congr (ppuStep_ram s) (ppuStep_cart s) (ppuStep_vram s) (ppuStep_palette s) (ppuStep_oam s)

/-- Every step keeps the canonical form and the sizes of the memories. -/
theorem step_memoriesOk {s t : State} (h : s.MemoriesOk) (e : step s = .next t) : t.MemoriesOk :=
  memoriesOk_keptByBus.step (fun _ => ppuStep_memoriesOk) h e

end Sys2Proof.Machine
end

