-- ==== Sys2Proof/Laws/Console.lean ====
section
/-! SUPPORT. The console as its host makes it: which records are rejected, what construction puts in program ROM, what the launch
leaves, that `State.reset` is one launch, and that no move of the host stops. -/

namespace Sys2Proof.Machine

/-- A byte of the constructed program ROM (R28, R192). -/
theorem cartridge_prg_read (r : CartridgeRecord) (draw : PowerOnDraw) (k : Nat) :
    (r.cartridge draw).prg.read k =
      (r.programRom.take (r.programRomPages * 0x4000)).getD k Memory.unlisted := by
  simp [CartridgeRecord.cartridge, Memory.read_ofBytes]

/-- The ROMs of a constructed cartridge are canonical and inside their pages; its RAMs are as drawn (R28). -/
theorem cartridge_ok (r : CartridgeRecord) {draw : PowerOnDraw}
    (hc : draw.chrRam.wf = true ∧ draw.chrRam.below 0x2000 = true) :
    ((r.cartridge draw).prg.wf = true ∧ (r.cartridge draw).prg.below (r.cartridge draw).prgSize = true) ∧
    ((r.cartridge draw).chr.wf = true ∧ (r.cartridge draw).chr.below (r.cartridge draw).chrSize = true) := by
  have rom (size : Nat) (ds : List Byte) : (Memory.ofBytes 0 (ds.take size)).below size = true :=
    Memory.below_ofBytes (by rw [Nat.zero_add, List.length_take]; exact Nat.min_le_left _ _)
  refine ⟨⟨Memory.wf_ofBytes _, rom _ _⟩, ?_⟩
  unfold CartridgeRecord.cartridge Cartridge.chrSize
  dsimp only
  by_cases h : r.characterRomPages = 0
  · simpa [h] using hc
  · simpa [h] using ⟨Memory.wf_ofBytes _, rom _ _⟩

/-- The reset operation by its bus reads: the vector bytes come from program ROM, and the reads change nothing (R193, R38). -/
theorem consoleReset_eq (s : State) :
    consoleReset s = { s with
      sp := s.cfg.resetSp, pc := wordOf (mapperRead s.cart 0xFFFD) (mapperRead s.cart 0xFFFC)
      pending := none, ppu := Ppu.afterReset s.ppu.vram s.ppu.palette s.ppu.oam } := by
  unfold consoleReset
  dsimp only
  rw [memRead16_mapper (a := resetVector) (by decide) (by decide)]
  rfl

/-- A byte of program ROM through the mapper of a constructed console (R38). -/
theorem constructed_mapperRead (cfg : Config) (draw : PowerOnDraw) (r : CartridgeRecord) {a : Word}
    (h : 0x8000 ≤ a.toNat) :
    mapperRead (constructed cfg draw r).cart a =
      (r.programRom.take (r.programRomPages * 0x4000)).getD
        ((a.toNat - 0x8000) % (r.programRomPages * 0x4000)) Memory.unlisted := by
  unfold mapperRead
  rw [if_neg (by rw [BitVec.lt_def]; simpa using h)]
  exact cartridge_prg_read r draw _

@[simp] theorem andThen_next (s : State) (f : State → Result) : andThen (.next s) f = f s := rfl
@[simp] theorem andThen_fault (e : Fault) (f : State → Result) : andThen (.fault e) f = .fault e := rfl
@[simp] theorem andThen_refused (e : Refusal) (f : State → Result) :
    andThen (.refused e) f = .refused e := rfl

/-- A record is accepted exactly when it asks for the baseline mapper and has a program-ROM page. -/
theorem rejection_eq_none (r : CartridgeRecord) :
    r.rejection = none ↔ r.mapperType = .baseline ∧ 1 ≤ r.programRomPages := by
  unfold CartridgeRecord.rejection
  cases r.mapperType with
  | variant id => simp
  | baseline => simp [Nat.one_le_iff_ne_zero]

/-- A record that is rejected has no console, no launch and no run (R157, K11, K12). -/
theorem hostRun_rejected {r : CartridgeRecord} {e : Refusal} (h : r.rejection = some e) (cfg : Config)
    (draw : PowerOnDraw) (moves : List HostMove) :
    powerOn cfg draw r = .refused e ∧ launch cfg draw r = .refused e ∧
    hostRun cfg draw r moves = .refused e := by
  simp [hostRun, launch, powerOn, h]

/-- What the reset does to the constructed console: SP, and PC from the record's reset vector; the PPU and the slot already have
their reset values (R31, R193, R194). -/
theorem reset_constructed (cfg : Config) (draw : PowerOnDraw) (r : CartridgeRecord) :
    consoleReset (constructed cfg draw r) = { constructed cfg draw r with
      sp := cfg.resetSp
      pc := wordOf (mapperRead (constructed cfg draw r).cart 0xFFFD)
        (mapperRead (constructed cfg draw r).cart 0xFFFC) } := by
  rw [consoleReset_eq]
  rfl

/-- The launch of a record that is accepted is the reset of its constructed console (R194). -/
theorem launch_accepted {r : CartridgeRecord} (h : r.rejection = none) (cfg : Config) (draw : PowerOnDraw) :
    launch cfg draw r = .next (consoleReset (constructed cfg draw r)) := by
  simp [launch, powerOn, h]

/-- `State.reset` is the launch of the blank cartridge from the named draw. -/
theorem launch_blank :
    launch Config.default PowerOnDraw.named CartridgeRecord.blank = .next State.reset := rfl

/-- A frame step's loop always answers (R187). -/
theorem frameLoop_next (target fuel : Nat) (s : State) : ∃ t, frameLoop target fuel s = .next t := by
  induction fuel generalizing s with
  | zero => exact ⟨s, rfl⟩
  | succ fuel ih =>
    unfold frameLoop
    split
    · rename_i h
      obtain ⟨t, ht⟩ := step_next h.2
      rw [ht]
      exact ih t
    · exact ⟨s, rfl⟩

/-- The host reads the mapper's RAM byte by byte (R206). -/
theorem hostView_mapperRam (s : State) {k : Nat} (h : k < 8192) :
    (hostView s).mapperRam.getD k 0 = s.cart.prgRam.read k := by
  simp only [hostView, Memory.getD_bytes s.cart.prgRam h]

/-- A move of the host always answers (R206): a console with a fault answers too, unchanged but by a reset. -/
theorem hostMove_next (m : HostMove) (s : State) : ∃ t, hostMove m s = .next t := by
  cases m with
  | reset => exact ⟨_, rfl⟩
  | executeCycle => exact frameLoop_next _ _ s

theorem hostMoves_next (ms : List HostMove) (s : State) : ∃ t, hostMoves ms s = .next t := by
  induction ms generalizing s with
  | nil => exact ⟨s, rfl⟩
  | cons m ms ih =>
    obtain ⟨t, ht⟩ := hostMove_next m s
    rw [hostMoves, ht]
    exact ih t

/-- Every run of a record that is accepted answers (R206). -/
theorem hostRun_next {r : CartridgeRecord} (h : r.rejection = none) (cfg : Config) (draw : PowerOnDraw)
    (moves : List HostMove) : ∃ t, hostRun cfg draw r moves = .next t := by
  rw [hostRun, launch_accepted h]
  exact hostMoves_next moves _

end Sys2Proof.Machine
end

