-- ==== Sys2Proof/Laws/Decode.lean ====
section
/-! SUPPORT. The decoder and the encoder agree on every row of the table; the round trips rest on this. -/

namespace Sys2Proof

/-- What a row builds is encoded by the row's opcode and the operand bytes. -/
def Build.fits (op : Byte) : Build → Prop
  | .bare i => encode i = [op]
  | .byte f => ∀ b, encode (f b) = [op, b]
  | .word f => ∀ w, encode (f w) = [op, lo w, hi w]

/-- Every row of a line fits, the line's first opcode being `n`. -/
def lineFits (n : Nat) (line : List Row) : Prop :=
  ∀ p ∈ line.zipIdx n, Build.fits (BitVec.ofNat 8 p.2) p.1.build

theorem rows0_fit : lineFits 0 rows0 := by
  simp only [lineFits, rows0, List.zipIdx_cons, List.zipIdx_nil, List.forall_mem_cons]
  refine ⟨?_, ?_, ?_, ?_, ?_, ?_, ?_, ?_, ?_, ?_, ?_, ?_, ?_, ?_, ?_, ?_, by simp⟩ <;>
    first | rfl | exact fun _ => rfl

theorem rows1_fit : lineFits 16 rows1 := by
  simp only [lineFits, rows1, List.zipIdx_cons, List.zipIdx_nil, List.forall_mem_cons]
  refine ⟨?_, ?_, ?_, ?_, ?_, ?_, ?_, ?_, ?_, ?_, ?_, ?_, ?_, ?_, ?_, ?_, by simp⟩ <;>
    first | rfl | exact fun _ => rfl

theorem rows2_fit : lineFits 32 rows2 := by
  simp only [lineFits, rows2, List.zipIdx_cons, List.zipIdx_nil, List.forall_mem_cons]
  refine ⟨?_, ?_, ?_, ?_, ?_, ?_, ?_, ?_, ?_, ?_, ?_, ?_, ?_, ?_, ?_, ?_, by simp⟩ <;>
    first | rfl | exact fun _ => rfl

theorem rows3_fit : lineFits 48 rows3 := by
  simp only [lineFits, rows3, List.zipIdx_cons, List.zipIdx_nil, List.forall_mem_cons]
  refine ⟨?_, ?_, ?_, ?_, ?_, ?_, ?_, ?_, ?_, ?_, ?_, ?_, ?_, ?_, ?_, ?_, by simp⟩ <;>
    first | rfl | exact fun _ => rfl

theorem rows4_fit : lineFits 64 rows4 := by
  simp only [lineFits, rows4, List.zipIdx_cons, List.zipIdx_nil, List.forall_mem_cons]
  refine ⟨?_, ?_, ?_, ?_, ?_, ?_, ?_, ?_, ?_, ?_, ?_, ?_, ?_, ?_, ?_, ?_, by simp⟩ <;>
    first | rfl | exact fun _ => rfl

theorem rows5_fit : lineFits 80 rows5 := by
  simp only [lineFits, rows5, List.zipIdx_cons, List.zipIdx_nil, List.forall_mem_cons]
  refine ⟨?_, ?_, ?_, ?_, ?_, ?_, ?_, ?_, ?_, ?_, ?_, ?_, ?_, ?_, ?_, ?_, by simp⟩ <;>
    first | rfl | exact fun _ => rfl

theorem rows6_fit : lineFits 96 rows6 := by
  simp only [lineFits, rows6, List.zipIdx_cons, List.zipIdx_nil, List.forall_mem_cons]
  refine ⟨?_, ?_, ?_, ?_, ?_, ?_, ?_, ?_, ?_, ?_, ?_, ?_, ?_, ?_, ?_, ?_, by simp⟩ <;>
    first | rfl | exact fun _ => rfl

theorem rows7_fit : lineFits 112 rows7 := by
  simp only [lineFits, rows7, List.zipIdx_cons, List.zipIdx_nil, List.forall_mem_cons]
  refine ⟨?_, ?_, ?_, ?_, ?_, ?_, ?_, ?_, ?_, ?_, ?_, ?_, ?_, ?_, ?_, ?_, by simp⟩ <;>
    first | rfl | exact fun _ => rfl

theorem rows8_fit : lineFits 128 rows8 := by
  simp only [lineFits, rows8, List.zipIdx_cons, List.zipIdx_nil, List.forall_mem_cons]
  refine ⟨?_, ?_, ?_, ?_, ?_, ?_, ?_, ?_, ?_, ?_, ?_, ?_, ?_, ?_, ?_, ?_, by simp⟩ <;>
    first | rfl | exact fun _ => rfl

theorem rows9_fit : lineFits 144 rows9 := by
  simp only [lineFits, rows9, List.zipIdx_cons, List.zipIdx_nil, List.forall_mem_cons]
  refine ⟨?_, ?_, ?_, ?_, ?_, ?_, ?_, ?_, ?_, ?_, ?_, ?_, ?_, ?_, ?_, ?_, by simp⟩ <;>
    first | rfl | exact fun _ => rfl

theorem rowsA_fit : lineFits 160 rowsA := by
  simp only [lineFits, rowsA, List.zipIdx_cons, List.zipIdx_nil, List.forall_mem_cons]
  refine ⟨?_, ?_, ?_, ?_, ?_, ?_, ?_, ?_, ?_, ?_, ?_, ?_, ?_, ?_, ?_, ?_, by simp⟩ <;>
    first | rfl | exact fun _ => rfl

theorem rowsB_fit : lineFits 176 rowsB := by
  simp only [lineFits, rowsB, List.zipIdx_cons, List.zipIdx_nil, List.forall_mem_cons]
  refine ⟨?_, ?_, ?_, ?_, ?_, ?_, ?_, ?_, ?_, ?_, ?_, ?_, ?_, ?_, ?_, ?_, by simp⟩ <;>
    first | rfl | exact fun _ => rfl

theorem rowsC_fit : lineFits 192 rowsC := by
  simp only [lineFits, rowsC, List.zipIdx_cons, List.zipIdx_nil, List.forall_mem_cons]
  refine ⟨?_, ?_, ?_, ?_, ?_, ?_, ?_, ?_, ?_, ?_, ?_, ?_, ?_, ?_, ?_, ?_, by simp⟩ <;>
    first | rfl | exact fun _ => rfl

theorem rowsD_fit : lineFits 208 rowsD := by
  simp only [lineFits, rowsD, List.zipIdx_cons, List.zipIdx_nil, List.forall_mem_cons]
  refine ⟨?_, ?_, ?_, ?_, ?_, ?_, ?_, ?_, ?_, ?_, ?_, ?_, ?_, ?_, ?_, ?_, by simp⟩ <;>
    first | rfl | exact fun _ => rfl

theorem rowsE_fit : lineFits 224 rowsE := by
  simp only [lineFits, rowsE, List.zipIdx_cons, List.zipIdx_nil, List.forall_mem_cons]
  refine ⟨?_, ?_, ?_, ?_, ?_, ?_, ?_, ?_, ?_, ?_, ?_, ?_, ?_, ?_, ?_, ?_, by simp⟩ <;>
    first | rfl | exact fun _ => rfl

theorem rowsF_fit : lineFits 240 rowsF := by
  simp only [lineFits, rowsF, List.zipIdx_cons, List.zipIdx_nil, List.forall_mem_cons]
  refine ⟨?_, ?_, ?_, ?_, ?_, ?_, ?_, ?_, ?_, ?_, ?_, ?_, ?_, ?_, ?_, ?_, by simp⟩ <;>
    first | rfl | exact fun _ => rfl

theorem lineFits_getElem {n : Nat} {rows : List Row} (h : lineFits n rows) {k : Nat}
    (hk : k < rows.length) : Build.fits (BitVec.ofNat 8 (n + k)) rows[k].build := by
  apply h (rows[k], n + k)
  rw [List.mk_mem_zipIdx_iff_le_and_getElem?_sub]
  simp [hk]

theorem table_fits (k : Nat) (hk : k < instructionTable.length) :
    lineFits (16 * k) (instructionTable[k]'hk) := by
  have h16 : k < 16 := hk
  interval_cases k
  · exact rows0_fit
  · exact rows1_fit
  · exact rows2_fit
  · exact rows3_fit
  · exact rows4_fit
  · exact rows5_fit
  · exact rows6_fit
  · exact rows7_fit
  · exact rows8_fit
  · exact rows9_fit
  · exact rowsA_fit
  · exact rowsB_fit
  · exact rowsC_fit
  · exact rowsD_fit
  · exact rowsE_fit
  · exact rowsF_fit

/-- The row of an opcode builds instructions that the opcode and the operand bytes encode (R60, R61, R65). -/
theorem row_fits (op : Byte) : Build.fits op (rowOf op).build := by
  have hlt := op.isLt
  have hline : lineFits (16 * (op.toNat / 16)) (lineOf op) := table_fits _ (by
    show _ < 16; omega)
  have hlen : op.toNat % 16 < (lineOf op).length := by
    rw [show (lineOf op).length = 16 from instructionTable_lines _ (List.getElem_mem _)]
    omega
  have h := lineFits_getElem hline hlen
  rw [show 16 * (op.toNat / 16) + op.toNat % 16 = op.toNat by omega, BitVec.ofNat_toNat, BitVec.setWidth_eq] at h
  exact h

end Sys2Proof
end

