-- ==== Sys2Proof/Laws/Flags.lean ====
section
/-! SUPPORT. The flag computations as arithmetic: sign bits as comparisons, signed overflow as a range, carry as a borrow. -/

namespace Sys2Proof.Machine

theorem signBit (b : Byte) : b.getLsbD 7 = decide (128 ≤ b.toNat) := by
  revert b; decide +kernel

theorem masked_signBit (b : Byte) : ((b &&& 0x80) != 0) = b.getLsbD 7 := by
  revert b; decide +kernel

theorem toInt_signBit (b : Byte) : b.toInt = if 128 ≤ b.toNat then (b.toNat : Int) - 256 else b.toNat := by
  revert b; decide +kernel

theorem bit_le (c : Bool) : bit c ≤ 1 := by cases c <;> decide

/-- The overflow bit of R105: the signed sum does not fit a byte. -/
theorem adc_overflow (a m : Byte) (c : Bool) :
    (((a ^^^ BitVec.ofNat 8 (a.toNat + m.toNat + bit c)) &&&
      (m ^^^ BitVec.ofNat 8 (a.toNat + m.toNat + bit c)) &&& 0x80) != 0) =
    decide (a.toInt + m.toInt + bit c < -128 ∨ 127 < a.toInt + m.toInt + bit c) := by
  have hc := bit_le c
  have ha := a.isLt
  have hm := m.isLt
  have hr : (BitVec.ofNat 8 (a.toNat + m.toNat + bit c)).toNat = (a.toNat + m.toNat + bit c) % 256 := by
    simp
  rw [masked_signBit, BitVec.getLsbD_and, BitVec.getLsbD_xor, BitVec.getLsbD_xor, signBit a, signBit m,
    signBit (BitVec.ofNat 8 _), hr, toInt_signBit a, toInt_signBit m, Bool.eq_iff_iff]
  by_cases h1 : 128 ≤ a.toNat <;> by_cases h2 : 128 ≤ m.toNat <;>
    simp only [h1, h2, decide_true, decide_false, Bool.true_xor, Bool.false_xor, Bool.and_eq_true,
      Bool.not_eq_true', decide_eq_true_eq, decide_eq_false_iff_not, if_true, if_false] <;>
    omega

/-- SBC's difference as a natural number: 256 more than the integer of R106, modulo 256. -/
theorem sbc_difference (a m : Byte) (c : Bool) :
    BitVec.ofInt 8 ((a.toNat : Int) - m.toNat - (1 - (bit c : Int))) =
      BitVec.ofNat 8 (a.toNat + 256 - m.toNat - (1 - bit c)) := by
  have hc := bit_le c
  have hm := m.isLt
  apply BitVec.eq_of_toNat_eq
  rw [BitVec.toNat_ofInt, BitVec.toNat_ofNat]
  omega

/-- The overflow bit of R106: the signed difference does not fit a byte. -/
theorem sbc_overflow (a m : Byte) (c : Bool) :
    (((a ^^^ BitVec.ofNat 8 (a.toNat + 256 - m.toNat - (1 - bit c))) &&&
      ((m ^^^ 0xFF) ^^^ BitVec.ofNat 8 (a.toNat + 256 - m.toNat - (1 - bit c))) &&& 0x80) != 0) =
    decide (a.toInt - m.toInt - (1 - bit c : Nat) < -128 ∨
      127 < a.toInt - m.toInt - (1 - bit c : Nat)) := by
  have hc := bit_le c
  have ha := a.isLt
  have hm := m.isLt
  have hr : (BitVec.ofNat 8 (a.toNat + 256 - m.toNat - (1 - bit c))).toNat =
      (a.toNat + 256 - m.toNat - (1 - bit c)) % 256 := by
    simp
  have hff : (0xFF : Byte).getLsbD 7 = true := by decide
  rw [masked_signBit, BitVec.getLsbD_and, BitVec.getLsbD_xor, BitVec.getLsbD_xor, BitVec.getLsbD_xor,
    hff, signBit a, signBit m, signBit (BitVec.ofNat 8 _), hr, toInt_signBit a, toInt_signBit m,
    Bool.eq_iff_iff]
  by_cases h1 : 128 ≤ a.toNat <;> by_cases h2 : 128 ≤ m.toNat <;>
    simp only [h1, h2, decide_true, decide_false, Bool.true_xor, Bool.false_xor, Bool.and_eq_true,
      Bool.xor_true, Bool.not_true, Bool.not_false, Bool.not_eq_true', decide_eq_true_eq,
      decide_eq_false_iff_not, if_true, if_false] <;>
    omega

/-- A compare's flags as comparisons (R111). -/
theorem compareFlags_eq (r m : Byte) (p : Flags) :
    compareFlags r m p = { p with
      c := decide (m.toNat ≤ r.toNat), z := decide (r = m),
      n := decide (128 ≤ (r.toNat + 256 - m.toNat) % 256) } := by
  have hz : ((r - m) == 0) = decide (r = m) := by
    rw [Bool.eq_iff_iff]
    simp [BitVec.sub_eq_iff_eq_add]
  have hn : (r - m).getLsbD 7 = decide (128 ≤ (r.toNat + 256 - m.toNat) % 256) := by
    have hm := m.isLt
    rw [signBit, BitVec.toNat_sub, show 2 ^ 8 - m.toNat + r.toNat = r.toNat + 256 - m.toNat by omega]
  unfold compareFlags Flags.setZN
  rw [hz, hn]

theorem fromByte_toByte (p : Flags) : Flags.fromByte p.toByte = p := by
  obtain ⟨c, z, i, d, b, u, v, n⟩ := p
  revert c z i d b u v n
  decide

/-- Forcing a bit of the status byte is setting the flag (R102, R136, R153). -/
theorem toByte_forced (p : Flags) :
    p.toByte ||| 0x30 = Flags.toByte { p with b := true, u := true } ∧
    p.toByte ||| 0x10 = Flags.toByte { p with b := true } ∧
    p.toByte &&& 0xEF = Flags.toByte { p with b := false } := by
  obtain ⟨c, z, i, d, b, u, v, n⟩ := p
  revert c z i d b u v n
  decide

end Sys2Proof.Machine
end

