-- ==== Sys2Proof/Laws/PerInstr.lean ====
section
/-! SUPPORT. The family of statements made for each constructor of `Instr`: that the instruction is well formed, its opcode's row and
its operand agreeing in mode and length (R60, R61, R65). -/

namespace Sys2Proof.Laws.WellFormedRow

/-- The instruction's opcode and operand belong together. -/
def Statement (i : Instr) : Prop := i.wellFormed = true

theorem oraIzx (b : Byte) : Statement (.oraIzx b) := Machine.instr_wellFormed _
theorem sloIzx_03 (b : Byte) : Statement (.sloIzx_03 b) := Machine.instr_wellFormed _
theorem nopZp_04 (b : Byte) : Statement (.nopZp_04 b) := Machine.instr_wellFormed _
theorem oraZp (b : Byte) : Statement (.oraZp b) := Machine.instr_wellFormed _
theorem aslZp (b : Byte) : Statement (.aslZp b) := Machine.instr_wellFormed _
theorem sloZp_07 (b : Byte) : Statement (.sloZp_07 b) := Machine.instr_wellFormed _
theorem oraImm (b : Byte) : Statement (.oraImm b) := Machine.instr_wellFormed _
theorem ancImm_0B (b : Byte) : Statement (.ancImm_0B b) := Machine.instr_wellFormed _
theorem nopAbs_0C (w : Word) : Statement (.nopAbs_0C w) := Machine.instr_wellFormed _
theorem oraAbs (w : Word) : Statement (.oraAbs w) := Machine.instr_wellFormed _
theorem aslAbs (w : Word) : Statement (.aslAbs w) := Machine.instr_wellFormed _
theorem sloAbs_0F (w : Word) : Statement (.sloAbs_0F w) := Machine.instr_wellFormed _
theorem bpl (b : Byte) : Statement (.bpl b) := Machine.instr_wellFormed _
theorem oraIzy (b : Byte) : Statement (.oraIzy b) := Machine.instr_wellFormed _
theorem sloIzy_13 (b : Byte) : Statement (.sloIzy_13 b) := Machine.instr_wellFormed _
theorem nopZpx_14 (b : Byte) : Statement (.nopZpx_14 b) := Machine.instr_wellFormed _
theorem oraZpx (b : Byte) : Statement (.oraZpx b) := Machine.instr_wellFormed _
theorem aslZpx (b : Byte) : Statement (.aslZpx b) := Machine.instr_wellFormed _
theorem sloZpx_17 (b : Byte) : Statement (.sloZpx_17 b) := Machine.instr_wellFormed _
theorem oraAbsy (w : Word) : Statement (.oraAbsy w) := Machine.instr_wellFormed _
theorem sloAbsy_1B (w : Word) : Statement (.sloAbsy_1B w) := Machine.instr_wellFormed _
theorem nopAbsx_1C (w : Word) : Statement (.nopAbsx_1C w) := Machine.instr_wellFormed _
theorem oraAbsx (w : Word) : Statement (.oraAbsx w) := Machine.instr_wellFormed _
theorem aslAbsx (w : Word) : Statement (.aslAbsx w) := Machine.instr_wellFormed _
theorem sloAbsx_1F (w : Word) : Statement (.sloAbsx_1F w) := Machine.instr_wellFormed _
theorem jsr (w : Word) : Statement (.jsr w) := Machine.instr_wellFormed _
theorem andIzx (b : Byte) : Statement (.andIzx b) := Machine.instr_wellFormed _
theorem rlaIzx_23 (b : Byte) : Statement (.rlaIzx_23 b) := Machine.instr_wellFormed _
theorem bitZp (b : Byte) : Statement (.bitZp b) := Machine.instr_wellFormed _
theorem andZp (b : Byte) : Statement (.andZp b) := Machine.instr_wellFormed _
theorem rolZp (b : Byte) : Statement (.rolZp b) := Machine.instr_wellFormed _
theorem rlaZp_27 (b : Byte) : Statement (.rlaZp_27 b) := Machine.instr_wellFormed _
theorem andImm (b : Byte) : Statement (.andImm b) := Machine.instr_wellFormed _
theorem ancImm_2B (b : Byte) : Statement (.ancImm_2B b) := Machine.instr_wellFormed _
theorem bitAbs (w : Word) : Statement (.bitAbs w) := Machine.instr_wellFormed _
theorem andAbs (w : Word) : Statement (.andAbs w) := Machine.instr_wellFormed _
theorem rolAbs (w : Word) : Statement (.rolAbs w) := Machine.instr_wellFormed _
theorem rlaAbs_2F (w : Word) : Statement (.rlaAbs_2F w) := Machine.instr_wellFormed _
theorem bmi (b : Byte) : Statement (.bmi b) := Machine.instr_wellFormed _
theorem andIzy (b : Byte) : Statement (.andIzy b) := Machine.instr_wellFormed _
theorem rlaIzy_33 (b : Byte) : Statement (.rlaIzy_33 b) := Machine.instr_wellFormed _
theorem nopZpx_34 (b : Byte) : Statement (.nopZpx_34 b) := Machine.instr_wellFormed _
theorem andZpx (b : Byte) : Statement (.andZpx b) := Machine.instr_wellFormed _
theorem rolZpx (b : Byte) : Statement (.rolZpx b) := Machine.instr_wellFormed _
theorem rlaZpx_37 (b : Byte) : Statement (.rlaZpx_37 b) := Machine.instr_wellFormed _
theorem andAbsy (w : Word) : Statement (.andAbsy w) := Machine.instr_wellFormed _
theorem rlaAbsy_3B (w : Word) : Statement (.rlaAbsy_3B w) := Machine.instr_wellFormed _
theorem nopAbsx_3C (w : Word) : Statement (.nopAbsx_3C w) := Machine.instr_wellFormed _
theorem andAbsx (w : Word) : Statement (.andAbsx w) := Machine.instr_wellFormed _
theorem rolAbsx (w : Word) : Statement (.rolAbsx w) := Machine.instr_wellFormed _
theorem rlaAbsx_3F (w : Word) : Statement (.rlaAbsx_3F w) := Machine.instr_wellFormed _
theorem eorIzx (b : Byte) : Statement (.eorIzx b) := Machine.instr_wellFormed _
theorem sreIzx_43 (b : Byte) : Statement (.sreIzx_43 b) := Machine.instr_wellFormed _
theorem nopZp_44 (b : Byte) : Statement (.nopZp_44 b) := Machine.instr_wellFormed _
theorem eorZp (b : Byte) : Statement (.eorZp b) := Machine.instr_wellFormed _
theorem lsrZp (b : Byte) : Statement (.lsrZp b) := Machine.instr_wellFormed _
theorem sreZp_47 (b : Byte) : Statement (.sreZp_47 b) := Machine.instr_wellFormed _
theorem eorImm (b : Byte) : Statement (.eorImm b) := Machine.instr_wellFormed _
theorem alrImm_4B (b : Byte) : Statement (.alrImm_4B b) := Machine.instr_wellFormed _
theorem jmpAbs (w : Word) : Statement (.jmpAbs w) := Machine.instr_wellFormed _
theorem eorAbs (w : Word) : Statement (.eorAbs w) := Machine.instr_wellFormed _
theorem lsrAbs (w : Word) : Statement (.lsrAbs w) := Machine.instr_wellFormed _
theorem sreAbs_4F (w : Word) : Statement (.sreAbs_4F w) := Machine.instr_wellFormed _
theorem bvc (b : Byte) : Statement (.bvc b) := Machine.instr_wellFormed _
theorem eorIzy (b : Byte) : Statement (.eorIzy b) := Machine.instr_wellFormed _
theorem sreIzy_53 (b : Byte) : Statement (.sreIzy_53 b) := Machine.instr_wellFormed _
theorem nopZpx_54 (b : Byte) : Statement (.nopZpx_54 b) := Machine.instr_wellFormed _
theorem eorZpx (b : Byte) : Statement (.eorZpx b) := Machine.instr_wellFormed _
theorem lsrZpx (b : Byte) : Statement (.lsrZpx b) := Machine.instr_wellFormed _
theorem sreZpx_57 (b : Byte) : Statement (.sreZpx_57 b) := Machine.instr_wellFormed _
theorem eorAbsy (w : Word) : Statement (.eorAbsy w) := Machine.instr_wellFormed _
theorem sreAbsy_5B (w : Word) : Statement (.sreAbsy_5B w) := Machine.instr_wellFormed _
theorem nopAbsx_5C (w : Word) : Statement (.nopAbsx_5C w) := Machine.instr_wellFormed _
theorem eorAbsx (w : Word) : Statement (.eorAbsx w) := Machine.instr_wellFormed _
theorem lsrAbsx (w : Word) : Statement (.lsrAbsx w) := Machine.instr_wellFormed _
theorem sreAbsx_5F (w : Word) : Statement (.sreAbsx_5F w) := Machine.instr_wellFormed _
theorem adcIzx (b : Byte) : Statement (.adcIzx b) := Machine.instr_wellFormed _
theorem rraIzx_63 (b : Byte) : Statement (.rraIzx_63 b) := Machine.instr_wellFormed _
theorem nopZp_64 (b : Byte) : Statement (.nopZp_64 b) := Machine.instr_wellFormed _
theorem adcZp (b : Byte) : Statement (.adcZp b) := Machine.instr_wellFormed _
theorem rorZp (b : Byte) : Statement (.rorZp b) := Machine.instr_wellFormed _
theorem rraZp_67 (b : Byte) : Statement (.rraZp_67 b) := Machine.instr_wellFormed _
theorem adcImm (b : Byte) : Statement (.adcImm b) := Machine.instr_wellFormed _
theorem arrImm_6B (b : Byte) : Statement (.arrImm_6B b) := Machine.instr_wellFormed _
theorem jmpInd (w : Word) : Statement (.jmpInd w) := Machine.instr_wellFormed _
theorem adcAbs (w : Word) : Statement (.adcAbs w) := Machine.instr_wellFormed _
theorem rorAbs (w : Word) : Statement (.rorAbs w) := Machine.instr_wellFormed _
theorem rraAbs_6F (w : Word) : Statement (.rraAbs_6F w) := Machine.instr_wellFormed _
theorem bvs (b : Byte) : Statement (.bvs b) := Machine.instr_wellFormed _
theorem adcIzy (b : Byte) : Statement (.adcIzy b) := Machine.instr_wellFormed _
theorem rraIzy_73 (b : Byte) : Statement (.rraIzy_73 b) := Machine.instr_wellFormed _
theorem nopZpx_74 (b : Byte) : Statement (.nopZpx_74 b) := Machine.instr_wellFormed _
theorem adcZpx (b : Byte) : Statement (.adcZpx b) := Machine.instr_wellFormed _
theorem rorZpx (b : Byte) : Statement (.rorZpx b) := Machine.instr_wellFormed _
theorem rraZpx_77 (b : Byte) : Statement (.rraZpx_77 b) := Machine.instr_wellFormed _
theorem adcAbsy (w : Word) : Statement (.adcAbsy w) := Machine.instr_wellFormed _
theorem rraAbsy_7B (w : Word) : Statement (.rraAbsy_7B w) := Machine.instr_wellFormed _
theorem nopAbsx_7C (w : Word) : Statement (.nopAbsx_7C w) := Machine.instr_wellFormed _
theorem adcAbsx (w : Word) : Statement (.adcAbsx w) := Machine.instr_wellFormed _
theorem rorAbsx (w : Word) : Statement (.rorAbsx w) := Machine.instr_wellFormed _
theorem rraAbsx_7F (w : Word) : Statement (.rraAbsx_7F w) := Machine.instr_wellFormed _
theorem nopImm_80 (b : Byte) : Statement (.nopImm_80 b) := Machine.instr_wellFormed _
theorem staIzx (b : Byte) : Statement (.staIzx b) := Machine.instr_wellFormed _
theorem nopImm_82 (b : Byte) : Statement (.nopImm_82 b) := Machine.instr_wellFormed _
theorem saxIzx_83 (b : Byte) : Statement (.saxIzx_83 b) := Machine.instr_wellFormed _
theorem styZp (b : Byte) : Statement (.styZp b) := Machine.instr_wellFormed _
theorem staZp (b : Byte) : Statement (.staZp b) := Machine.instr_wellFormed _
theorem stxZp (b : Byte) : Statement (.stxZp b) := Machine.instr_wellFormed _
theorem saxZp_87 (b : Byte) : Statement (.saxZp_87 b) := Machine.instr_wellFormed _
theorem nopImm_89 (b : Byte) : Statement (.nopImm_89 b) := Machine.instr_wellFormed _
theorem xaaImm_8B (b : Byte) : Statement (.xaaImm_8B b) := Machine.instr_wellFormed _
theorem styAbs (w : Word) : Statement (.styAbs w) := Machine.instr_wellFormed _
theorem staAbs (w : Word) : Statement (.staAbs w) := Machine.instr_wellFormed _
theorem stxAbs (w : Word) : Statement (.stxAbs w) := Machine.instr_wellFormed _
theorem saxAbs_8F (w : Word) : Statement (.saxAbs_8F w) := Machine.instr_wellFormed _
theorem bcc (b : Byte) : Statement (.bcc b) := Machine.instr_wellFormed _
theorem staIzy (b : Byte) : Statement (.staIzy b) := Machine.instr_wellFormed _
theorem ahxIzy_93 (b : Byte) : Statement (.ahxIzy_93 b) := Machine.instr_wellFormed _
theorem styZpx (b : Byte) : Statement (.styZpx b) := Machine.instr_wellFormed _
theorem staZpx (b : Byte) : Statement (.staZpx b) := Machine.instr_wellFormed _
theorem stxZpy (b : Byte) : Statement (.stxZpy b) := Machine.instr_wellFormed _
theorem saxZpy_97 (b : Byte) : Statement (.saxZpy_97 b) := Machine.instr_wellFormed _
theorem staAbsy (w : Word) : Statement (.staAbsy w) := Machine.instr_wellFormed _
theorem tasAbsy_9B (w : Word) : Statement (.tasAbsy_9B w) := Machine.instr_wellFormed _
theorem shyAbsx_9C (w : Word) : Statement (.shyAbsx_9C w) := Machine.instr_wellFormed _
theorem staAbsx (w : Word) : Statement (.staAbsx w) := Machine.instr_wellFormed _
theorem shxAbsy_9E (w : Word) : Statement (.shxAbsy_9E w) := Machine.instr_wellFormed _
theorem ahxAbsy_9F (w : Word) : Statement (.ahxAbsy_9F w) := Machine.instr_wellFormed _
theorem ldyImm (b : Byte) : Statement (.ldyImm b) := Machine.instr_wellFormed _
theorem ldaIzx (b : Byte) : Statement (.ldaIzx b) := Machine.instr_wellFormed _
theorem ldxImm (b : Byte) : Statement (.ldxImm b) := Machine.instr_wellFormed _
theorem laxIzx_A3 (b : Byte) : Statement (.laxIzx_A3 b) := Machine.instr_wellFormed _
theorem ldyZp (b : Byte) : Statement (.ldyZp b) := Machine.instr_wellFormed _
theorem ldaZp (b : Byte) : Statement (.ldaZp b) := Machine.instr_wellFormed _
theorem ldxZp (b : Byte) : Statement (.ldxZp b) := Machine.instr_wellFormed _
theorem laxZp_A7 (b : Byte) : Statement (.laxZp_A7 b) := Machine.instr_wellFormed _
theorem ldaImm (b : Byte) : Statement (.ldaImm b) := Machine.instr_wellFormed _
theorem laxImm_AB (b : Byte) : Statement (.laxImm_AB b) := Machine.instr_wellFormed _
theorem ldyAbs (w : Word) : Statement (.ldyAbs w) := Machine.instr_wellFormed _
theorem ldaAbs (w : Word) : Statement (.ldaAbs w) := Machine.instr_wellFormed _
theorem ldxAbs (w : Word) : Statement (.ldxAbs w) := Machine.instr_wellFormed _
theorem laxAbs_AF (w : Word) : Statement (.laxAbs_AF w) := Machine.instr_wellFormed _
theorem bcs (b : Byte) : Statement (.bcs b) := Machine.instr_wellFormed _
theorem ldaIzy (b : Byte) : Statement (.ldaIzy b) := Machine.instr_wellFormed _
theorem laxIzy_B3 (b : Byte) : Statement (.laxIzy_B3 b) := Machine.instr_wellFormed _
theorem ldyZpx (b : Byte) : Statement (.ldyZpx b) := Machine.instr_wellFormed _
theorem ldaZpx (b : Byte) : Statement (.ldaZpx b) := Machine.instr_wellFormed _
theorem ldxZpy (b : Byte) : Statement (.ldxZpy b) := Machine.instr_wellFormed _
theorem laxZpy_B7 (b : Byte) : Statement (.laxZpy_B7 b) := Machine.instr_wellFormed _
theorem ldaAbsy (w : Word) : Statement (.ldaAbsy w) := Machine.instr_wellFormed _
theorem lasAbsy_BB (w : Word) : Statement (.lasAbsy_BB w) := Machine.instr_wellFormed _
theorem ldyAbsx (w : Word) : Statement (.ldyAbsx w) := Machine.instr_wellFormed _
theorem ldaAbsx (w : Word) : Statement (.ldaAbsx w) := Machine.instr_wellFormed _
theorem ldxAbsy (w : Word) : Statement (.ldxAbsy w) := Machine.instr_wellFormed _
theorem laxAbsy_BF (w : Word) : Statement (.laxAbsy_BF w) := Machine.instr_wellFormed _
theorem cpyImm (b : Byte) : Statement (.cpyImm b) := Machine.instr_wellFormed _
theorem cmpIzx (b : Byte) : Statement (.cmpIzx b) := Machine.instr_wellFormed _
theorem nopImm_C2 (b : Byte) : Statement (.nopImm_C2 b) := Machine.instr_wellFormed _
theorem dcpIzx_C3 (b : Byte) : Statement (.dcpIzx_C3 b) := Machine.instr_wellFormed _
theorem cpyZp (b : Byte) : Statement (.cpyZp b) := Machine.instr_wellFormed _
theorem cmpZp (b : Byte) : Statement (.cmpZp b) := Machine.instr_wellFormed _
theorem decZp (b : Byte) : Statement (.decZp b) := Machine.instr_wellFormed _
theorem dcpZp_C7 (b : Byte) : Statement (.dcpZp_C7 b) := Machine.instr_wellFormed _
theorem cmpImm (b : Byte) : Statement (.cmpImm b) := Machine.instr_wellFormed _
theorem axsImm_CB (b : Byte) : Statement (.axsImm_CB b) := Machine.instr_wellFormed _
theorem cpyAbs (w : Word) : Statement (.cpyAbs w) := Machine.instr_wellFormed _
theorem cmpAbs (w : Word) : Statement (.cmpAbs w) := Machine.instr_wellFormed _
theorem decAbs (w : Word) : Statement (.decAbs w) := Machine.instr_wellFormed _
theorem dcpAbs_CF (w : Word) : Statement (.dcpAbs_CF w) := Machine.instr_wellFormed _
theorem bne (b : Byte) : Statement (.bne b) := Machine.instr_wellFormed _
theorem cmpIzy (b : Byte) : Statement (.cmpIzy b) := Machine.instr_wellFormed _
theorem dcpIzy_D3 (b : Byte) : Statement (.dcpIzy_D3 b) := Machine.instr_wellFormed _
theorem nopZpx_D4 (b : Byte) : Statement (.nopZpx_D4 b) := Machine.instr_wellFormed _
theorem cmpZpx (b : Byte) : Statement (.cmpZpx b) := Machine.instr_wellFormed _
theorem decZpx (b : Byte) : Statement (.decZpx b) := Machine.instr_wellFormed _
theorem dcpZpx_D7 (b : Byte) : Statement (.dcpZpx_D7 b) := Machine.instr_wellFormed _
theorem cmpAbsy (w : Word) : Statement (.cmpAbsy w) := Machine.instr_wellFormed _
theorem dcpAbsy_DB (w : Word) : Statement (.dcpAbsy_DB w) := Machine.instr_wellFormed _
theorem nopAbsx_DC (w : Word) : Statement (.nopAbsx_DC w) := Machine.instr_wellFormed _
theorem cmpAbsx (w : Word) : Statement (.cmpAbsx w) := Machine.instr_wellFormed _
theorem decAbsx (w : Word) : Statement (.decAbsx w) := Machine.instr_wellFormed _
theorem dcpAbsx_DF (w : Word) : Statement (.dcpAbsx_DF w) := Machine.instr_wellFormed _
theorem cpxImm (b : Byte) : Statement (.cpxImm b) := Machine.instr_wellFormed _
theorem sbcIzx (b : Byte) : Statement (.sbcIzx b) := Machine.instr_wellFormed _
theorem nopImm_E2 (b : Byte) : Statement (.nopImm_E2 b) := Machine.instr_wellFormed _
theorem iscIzx_E3 (b : Byte) : Statement (.iscIzx_E3 b) := Machine.instr_wellFormed _
theorem cpxZp (b : Byte) : Statement (.cpxZp b) := Machine.instr_wellFormed _
theorem sbcZp (b : Byte) : Statement (.sbcZp b) := Machine.instr_wellFormed _
theorem incZp (b : Byte) : Statement (.incZp b) := Machine.instr_wellFormed _
theorem iscZp_E7 (b : Byte) : Statement (.iscZp_E7 b) := Machine.instr_wellFormed _
theorem sbcImm (b : Byte) : Statement (.sbcImm b) := Machine.instr_wellFormed _
theorem sbcImm_EB (b : Byte) : Statement (.sbcImm_EB b) := Machine.instr_wellFormed _
theorem cpxAbs (w : Word) : Statement (.cpxAbs w) := Machine.instr_wellFormed _
theorem sbcAbs (w : Word) : Statement (.sbcAbs w) := Machine.instr_wellFormed _
theorem incAbs (w : Word) : Statement (.incAbs w) := Machine.instr_wellFormed _
theorem iscAbs_EF (w : Word) : Statement (.iscAbs_EF w) := Machine.instr_wellFormed _
theorem beq (b : Byte) : Statement (.beq b) := Machine.instr_wellFormed _
theorem sbcIzy (b : Byte) : Statement (.sbcIzy b) := Machine.instr_wellFormed _
theorem iscIzy_F3 (b : Byte) : Statement (.iscIzy_F3 b) := Machine.instr_wellFormed _
theorem nopZpx_F4 (b : Byte) : Statement (.nopZpx_F4 b) := Machine.instr_wellFormed _
theorem sbcZpx (b : Byte) : Statement (.sbcZpx b) := Machine.instr_wellFormed _
theorem incZpx (b : Byte) : Statement (.incZpx b) := Machine.instr_wellFormed _
theorem iscZpx_F7 (b : Byte) : Statement (.iscZpx_F7 b) := Machine.instr_wellFormed _
theorem sbcAbsy (w : Word) : Statement (.sbcAbsy w) := Machine.instr_wellFormed _
theorem iscAbsy_FB (w : Word) : Statement (.iscAbsy_FB w) := Machine.instr_wellFormed _
theorem nopAbsx_FC (w : Word) : Statement (.nopAbsx_FC w) := Machine.instr_wellFormed _
theorem sbcAbsx (w : Word) : Statement (.sbcAbsx w) := Machine.instr_wellFormed _
theorem incAbsx (w : Word) : Statement (.incAbsx w) := Machine.instr_wellFormed _
theorem iscAbsx_FF (w : Word) : Statement (.iscAbsx_FF w) := Machine.instr_wellFormed _
theorem brk : Statement .brk := Machine.instr_wellFormed _
theorem kil_02 : Statement .kil_02 := Machine.instr_wellFormed _
theorem php : Statement .php := Machine.instr_wellFormed _
theorem aslAcc : Statement .aslAcc := Machine.instr_wellFormed _
theorem kil_12 : Statement .kil_12 := Machine.instr_wellFormed _
theorem clc : Statement .clc := Machine.instr_wellFormed _
theorem nop_1A : Statement .nop_1A := Machine.instr_wellFormed _
theorem kil_22 : Statement .kil_22 := Machine.instr_wellFormed _
theorem plp : Statement .plp := Machine.instr_wellFormed _
theorem rolAcc : Statement .rolAcc := Machine.instr_wellFormed _
theorem kil_32 : Statement .kil_32 := Machine.instr_wellFormed _
theorem sec : Statement .sec := Machine.instr_wellFormed _
theorem nop_3A : Statement .nop_3A := Machine.instr_wellFormed _
theorem rti : Statement .rti := Machine.instr_wellFormed _
theorem kil_42 : Statement .kil_42 := Machine.instr_wellFormed _
theorem pha : Statement .pha := Machine.instr_wellFormed _
theorem lsrAcc : Statement .lsrAcc := Machine.instr_wellFormed _
theorem kil_52 : Statement .kil_52 := Machine.instr_wellFormed _
theorem cli : Statement .cli := Machine.instr_wellFormed _
theorem nop_5A : Statement .nop_5A := Machine.instr_wellFormed _
theorem rts : Statement .rts := Machine.instr_wellFormed _
theorem kil_62 : Statement .kil_62 := Machine.instr_wellFormed _
theorem pla : Statement .pla := Machine.instr_wellFormed _
theorem rorAcc : Statement .rorAcc := Machine.instr_wellFormed _
theorem kil_72 : Statement .kil_72 := Machine.instr_wellFormed _
theorem sei : Statement .sei := Machine.instr_wellFormed _
theorem nop_7A : Statement .nop_7A := Machine.instr_wellFormed _
theorem dey : Statement .dey := Machine.instr_wellFormed _
theorem txa : Statement .txa := Machine.instr_wellFormed _
theorem kil_92 : Statement .kil_92 := Machine.instr_wellFormed _
theorem tya : Statement .tya := Machine.instr_wellFormed _
theorem txs : Statement .txs := Machine.instr_wellFormed _
theorem tay : Statement .tay := Machine.instr_wellFormed _
theorem tax : Statement .tax := Machine.instr_wellFormed _
theorem kil_B2 : Statement .kil_B2 := Machine.instr_wellFormed _
theorem clv : Statement .clv := Machine.instr_wellFormed _
theorem tsx : Statement .tsx := Machine.instr_wellFormed _
theorem iny : Statement .iny := Machine.instr_wellFormed _
theorem dex : Statement .dex := Machine.instr_wellFormed _
theorem kil_D2 : Statement .kil_D2 := Machine.instr_wellFormed _
theorem cld : Statement .cld := Machine.instr_wellFormed _
theorem nop_DA : Statement .nop_DA := Machine.instr_wellFormed _
theorem inx : Statement .inx := Machine.instr_wellFormed _
theorem nop : Statement .nop := Machine.instr_wellFormed _
theorem kil_F2 : Statement .kil_F2 := Machine.instr_wellFormed _
theorem sed : Statement .sed := Machine.instr_wellFormed _
theorem nop_FA : Statement .nop_FA := Machine.instr_wellFormed _

end Sys2Proof.Laws.WellFormedRow
end

