-- ==== Sys2Proof/Laws/Run.lean ====
section
/-! SUPPORT. A run (R207): a run's end is the first boundary that satisfies the end condition, a stopped run stays as it is, and every
run either ends, with one observation, or faults, or hangs. -/

namespace Sys2Proof.Machine

@[simp] theorem goOn_next (s : State) (f : State → RunOutcome) : goOn (.next s) f = f s := rfl
@[simp] theorem goOn_stuck (r : FaultRecord) (f : State → RunOutcome) :
    goOn (.fault (.stuck r)) f = .faulted r := rfl
@[simp] theorem goOn_refused (e : Refusal) (f : State → RunOutcome) : goOn (.refused e) f = .refused e := rfl

theorem runEnded_iff (s : State) :
    s.runEnded = true ↔ s.pc = s.cfg.endPc ∧ s.pending = none ∧ s.fault = none := by
  simp [State.runEnded, and_assoc]

/-- A run goes on exactly where it has neither faulted nor ended. -/
theorem runStops_eq_none (s : State) : s.runStops = none ↔ s.fault = none ∧ s.runEnded = false := by
  unfold State.runStops
  cases s.fault <;> simp

/-- Where a run stops, it has faulted with the recorded fault, or ended with that state. -/
theorem runStops_cases {s : State} {o : RunOutcome} (h : s.runStops = some o) :
    (∃ r, s.fault = some r ∧ o = .faulted r) ∨ (s.runEnded = true ∧ o = .ended s) := by
  unfold State.runStops at h
  cases hf : s.fault with
  | some r =>
    rw [hf] at h
    exact .inl ⟨r, rfl, (Option.some.inj h).symm⟩
  | none =>
    rw [hf] at h
    cases he : s.runEnded <;> simp [he] at h
    exact .inr ⟨rfl, h.symm⟩

/-- A run at a boundary where it stops. -/
theorem runFor_stops {s : State} {o : RunOutcome} (h : s.runStops = some o) (n : Nat) : runFor n s = o := by
  cases n <;> simp [runFor, h]

/-- A run at a boundary where it goes on takes one console step, which answers. -/
theorem runFor_goes_on {s : State} (h : s.runStops = none) :
    ∃ t, step s = .next t ∧ ∀ n, runFor (n + 1) s = runFor n t := by
  obtain ⟨t, ht⟩ := step_next ((runStops_eq_none s).1 h).1
  exact ⟨t, ht, fun n => by simp [runFor, h, ht]⟩

/-- No run refuses once it is launched. -/
theorem runFor_ne_refused (n : Nat) (s : State) (e : Refusal) : runFor n s ≠ .refused e := by
  induction n generalizing s with
  | zero =>
    cases h : s.runStops with
    | none => simp [runFor, h]
    | some o =>
      rw [runFor_stops h]
      rcases runStops_cases h with ⟨r, -, rfl⟩ | ⟨-, rfl⟩ <;> simp
  | succ n ih =>
    cases h : s.runStops with
    | none =>
      obtain ⟨t, -, ht⟩ := runFor_goes_on h
      rw [ht]
      exact ih t
    | some o =>
      rw [runFor_stops h]
      rcases runStops_cases h with ⟨r, -, rfl⟩ | ⟨-, rfl⟩ <;> simp

/-- A run that has stopped stays as it is, however many more steps it is given. -/
theorem runFor_stable {n : Nat} {s : State} (h : ∀ t, runFor n s ≠ .running t) (k : Nat) :
    runFor (n + k) s = runFor n s := by
  induction n generalizing s with
  | zero =>
    cases hs : s.runStops with
    | none => exact absurd (by simp [runFor, hs]) (h s)
    | some o => rw [runFor_stops hs, runFor_stops hs]
  | succ n ih =>
    cases hs : s.runStops with
    | none =>
      obtain ⟨t, -, ht⟩ := runFor_goes_on hs
      rw [ht] at h
      rw [Nat.succ_add, ht, ht]
      exact ih h
    | some o => rw [runFor_stops hs, runFor_stops hs]

/-- At a boundary where a run stops, the outcome is an observation exactly when the run has ended there. -/
theorem runStops_ended_iff {s : State} {x : RunOutcome} (h : s.runStops = some x) (o : State) :
    x = .ended o ↔ o.runEnded = true ∧ s = o := by
  rcases runStops_cases h with ⟨r, hf, rfl⟩ | ⟨he, rfl⟩
  · refine ⟨nofun, ?_⟩
    rintro ⟨ho, rfl⟩
    rw [((runEnded_iff s).1 ho).2.2] at hf
    cases hf
  · refine ⟨fun e => RunOutcome.ended.inj e ▸ ⟨he, rfl⟩, ?_⟩
    rintro ⟨-, rfl⟩
    rfl

/-- From a boundary where a run stops it reaches that boundary only. -/
theorem reaches_of_stops {s : State} {x : RunOutcome} (h : s.runStops = some x) (k : Nat) (o : State) :
    Reaches k s o ↔ k = 0 ∧ s = o := by
  cases k <;> simp [Reaches, h]

/-- From a boundary where a run goes on it reaches that boundary, and those of the run from the next. -/
theorem reaches_of_goes_on {s t : State} (h : s.runStops = none) (ht : step s = .next t) (k : Nat) (o : State) :
    Reaches (k + 1) s o ↔ Reaches k t o := by
  simp [Reaches, h, ht]

/-- A run ends at the FIRST boundary with `PC = END_PC`, no pending interrupt and no fault, and that state is the observation
(R207). -/
theorem runFor_ended_iff (n : Nat) (s o : State) :
    runFor n s = .ended o ↔ o.runEnded = true ∧ ∃ k, k ≤ n ∧ Reaches k s o := by
  induction n generalizing s with
  | zero =>
    cases h : s.runStops with
    | none =>
      have he := ((runStops_eq_none s).1 h).2
      suffices o.runEnded = true → s ≠ o by simpa [runFor, h, Reaches]
      rintro ho rfl
      rw [he] at ho
      cases ho
    | some x => simp [runFor_stops h, runStops_ended_iff h, reaches_of_stops h]
  | succ n ih =>
    cases h : s.runStops with
    | none =>
      obtain ⟨t, ht, hr⟩ := runFor_goes_on h
      rw [hr, ih]
      refine and_congr_right fun ho => ⟨fun ⟨k, hk, hk'⟩ =>
        ⟨k + 1, by omega, (reaches_of_goes_on h ht k o).2 hk'⟩, ?_⟩
      rintro ⟨k, hk, hk'⟩
      cases k with
      | zero =>
        obtain rfl : s = o := hk'
        rw [((runStops_eq_none s).1 h).2] at ho
        cases ho
      | succ k => exact ⟨k, by omega, (reaches_of_goes_on h ht k o).1 hk'⟩
    | some x => simp [runFor_stops h, runStops_ended_iff h, reaches_of_stops h]

/-- Two bounds at which a run has stopped show the same outcome. -/
theorem runFor_agree {m n : Nat} {s : State} (hm : ∀ t, runFor m s ≠ .running t)
    (hn : ∀ t, runFor n s ≠ .running t) : runFor m s = runFor n s := by
  rw [← runFor_stable hm n, Nat.add_comm, runFor_stable hn]

/-- A run has at most one observation (R207). -/
theorem runObserves_unique {s o o' : State} (h : RunObserves s o) (h' : RunObserves s o') : o = o' := by
  obtain ⟨m, hm⟩ := h
  obtain ⟨n, hn⟩ := h'
  have e := runFor_agree (s := s) (m := m) (n := n) (by simp [hm]) (by simp [hn])
  rw [hm, hn] at e
  exact RunOutcome.ended.inj e

/-- A run that faults has no observation (R207). -/
theorem runFaults_not_observes {s o : State} {r : FaultRecord} (h : RunFaults s r) : ¬ RunObserves s o := by
  rintro ⟨n, hn⟩
  obtain ⟨m, hm⟩ := h
  have e := runFor_agree (s := s) (m := m) (n := n) (by simp [hm]) (by simp [hn])
  rw [hm, hn] at e
  cases e

/-- A run that hangs neither ends nor faults (R207). -/
theorem runHangs_excludes {s : State} (h : RunHangs s) :
    (∀ o, ¬ RunObserves s o) ∧ ∀ r, ¬ RunFaults s r := by
  constructor <;>
  · rintro x ⟨n, hn⟩
    obtain ⟨t, ht⟩ := h n
    rw [ht] at hn
    cases hn

/-- Every run ends, faults or hangs (R207). -/
theorem run_cases (s : State) : (∃ o, RunObserves s o) ∨ (∃ r, RunFaults s r) ∨ RunHangs s := by
  by_cases h : RunHangs s
  · exact .inr (.inr h)
  · obtain ⟨n, hn⟩ := not_forall.1 h
    cases e : runFor n s with
    | ended o => exact .inl ⟨o, n, e⟩
    | faulted r => exact .inr (.inl ⟨r, n, e⟩)
    | refused f => exact absurd e (runFor_ne_refused n s f)
    | running t => exact absurd ⟨t, e⟩ hn

end Sys2Proof.Machine
end

