-- ==== Sys2Proof/Tests/Slice0.lean ====
section
/-! SUPPORT. The model's own tests: the well-formedness smoke tests, one written-out word for every row of the opcode table,
test vectors of `spec/95_test_vectors.md` (a theorem's docstring names its vector), and for every obligation with
hypotheses a witness that meets them. Expected values come from the spec's vectors and rules. -/

namespace Sys2Proof.Tests

open Sys2Proof.Machine

/-! ### Well-formedness -/

/-- An opcode with an operand of another mode is ill-formed: LDA immediate with an absolute,X operand. -/
theorem test_mode_check_refuses : (CodeWord.mk 0xA9 (.absx 5)).modeAgrees = false := by decide

/-- A row's size that does not fit the operand's bytes is refused. -/
theorem test_size_check_refuses :
    (Descriptor.mk .LDA .imm 3 2 0 .documented).sizeAgrees (.imm 5) = false := by decide

theorem test_ill_formed_code_refused : (CodeWord.mk 0xA9 (.absx 5)).wellFormed = false := by decide

theorem test_well_formed_code_accepted : (CodeWord.mk 0xA9 (.imm 5)).wellFormed = true := by decide

/-! ### Decoding: a word for every row, its opcode byte written bit by bit -/

/-- The bytes decode to the instruction, and none is left over. -/
def decodesTo (bytes : List Byte) (i : Instr) : Bool :=
  match decode bytes with
  | .ok (j, rest) => j == i && rest.isEmpty
  | .error _ => false

/-- Every pair of the list decodes as it says. -/
def allDecode (l : List (List Byte × Instr)) : Bool := l.all fun p => decodesTo p.1 p.2

theorem test_decode_line0 : allDecode [
  ([0b00000000], .brk), ([0b00000001, 0x10], .oraIzx 0x10),
  ([0b00000010], .kil_02), ([0b00000011, 0x10], .sloIzx_03 0x10),
  ([0b00000100, 0x10], .nopZp_04 0x10), ([0b00000101, 0x10], .oraZp 0x10),
  ([0b00000110, 0x10], .aslZp 0x10), ([0b00000111, 0x10], .sloZp_07 0x10),
  ([0b00001000], .php), ([0b00001001, 0x10], .oraImm 0x10),
  ([0b00001010], .aslAcc), ([0b00001011, 0x10], .ancImm_0B 0x10),
  ([0b00001100, 0x34, 0x12], .nopAbs_0C 0x1234), ([0b00001101, 0x34, 0x12], .oraAbs 0x1234),
  ([0b00001110, 0x34, 0x12], .aslAbs 0x1234), ([0b00001111, 0x34, 0x12], .sloAbs_0F 0x1234)] = true := by decide

theorem test_decode_line1 : allDecode [
  ([0b00010000, 0x10], .bpl 0x10), ([0b00010001, 0x10], .oraIzy 0x10),
  ([0b00010010], .kil_12), ([0b00010011, 0x10], .sloIzy_13 0x10),
  ([0b00010100, 0x10], .nopZpx_14 0x10), ([0b00010101, 0x10], .oraZpx 0x10),
  ([0b00010110, 0x10], .aslZpx 0x10), ([0b00010111, 0x10], .sloZpx_17 0x10),
  ([0b00011000], .clc), ([0b00011001, 0x34, 0x12], .oraAbsy 0x1234),
  ([0b00011010], .nop_1A), ([0b00011011, 0x34, 0x12], .sloAbsy_1B 0x1234),
  ([0b00011100, 0x34, 0x12], .nopAbsx_1C 0x1234), ([0b00011101, 0x34, 0x12], .oraAbsx 0x1234),
  ([0b00011110, 0x34, 0x12], .aslAbsx 0x1234), ([0b00011111, 0x34, 0x12], .sloAbsx_1F 0x1234)] = true := by decide

theorem test_decode_line2 : allDecode [
  ([0b00100000, 0x34, 0x12], .jsr 0x1234), ([0b00100001, 0x10], .andIzx 0x10),
  ([0b00100010], .kil_22), ([0b00100011, 0x10], .rlaIzx_23 0x10),
  ([0b00100100, 0x10], .bitZp 0x10), ([0b00100101, 0x10], .andZp 0x10),
  ([0b00100110, 0x10], .rolZp 0x10), ([0b00100111, 0x10], .rlaZp_27 0x10),
  ([0b00101000], .plp), ([0b00101001, 0x10], .andImm 0x10),
  ([0b00101010], .rolAcc), ([0b00101011, 0x10], .ancImm_2B 0x10),
  ([0b00101100, 0x34, 0x12], .bitAbs 0x1234), ([0b00101101, 0x34, 0x12], .andAbs 0x1234),
  ([0b00101110, 0x34, 0x12], .rolAbs 0x1234), ([0b00101111, 0x34, 0x12], .rlaAbs_2F 0x1234)] = true := by decide

theorem test_decode_line3 : allDecode [
  ([0b00110000, 0x10], .bmi 0x10), ([0b00110001, 0x10], .andIzy 0x10),
  ([0b00110010], .kil_32), ([0b00110011, 0x10], .rlaIzy_33 0x10),
  ([0b00110100, 0x10], .nopZpx_34 0x10), ([0b00110101, 0x10], .andZpx 0x10),
  ([0b00110110, 0x10], .rolZpx 0x10), ([0b00110111, 0x10], .rlaZpx_37 0x10),
  ([0b00111000], .sec), ([0b00111001, 0x34, 0x12], .andAbsy 0x1234),
  ([0b00111010], .nop_3A), ([0b00111011, 0x34, 0x12], .rlaAbsy_3B 0x1234),
  ([0b00111100, 0x34, 0x12], .nopAbsx_3C 0x1234), ([0b00111101, 0x34, 0x12], .andAbsx 0x1234),
  ([0b00111110, 0x34, 0x12], .rolAbsx 0x1234), ([0b00111111, 0x34, 0x12], .rlaAbsx_3F 0x1234)] = true := by decide

theorem test_decode_line4 : allDecode [
  ([0b01000000], .rti), ([0b01000001, 0x10], .eorIzx 0x10),
  ([0b01000010], .kil_42), ([0b01000011, 0x10], .sreIzx_43 0x10),
  ([0b01000100, 0x10], .nopZp_44 0x10), ([0b01000101, 0x10], .eorZp 0x10),
  ([0b01000110, 0x10], .lsrZp 0x10), ([0b01000111, 0x10], .sreZp_47 0x10),
  ([0b01001000], .pha), ([0b01001001, 0x10], .eorImm 0x10),
  ([0b01001010], .lsrAcc), ([0b01001011, 0x10], .alrImm_4B 0x10),
  ([0b01001100, 0x34, 0x12], .jmpAbs 0x1234), ([0b01001101, 0x34, 0x12], .eorAbs 0x1234),
  ([0b01001110, 0x34, 0x12], .lsrAbs 0x1234), ([0b01001111, 0x34, 0x12], .sreAbs_4F 0x1234)] = true := by decide

theorem test_decode_line5 : allDecode [
  ([0b01010000, 0x10], .bvc 0x10), ([0b01010001, 0x10], .eorIzy 0x10),
  ([0b01010010], .kil_52), ([0b01010011, 0x10], .sreIzy_53 0x10),
  ([0b01010100, 0x10], .nopZpx_54 0x10), ([0b01010101, 0x10], .eorZpx 0x10),
  ([0b01010110, 0x10], .lsrZpx 0x10), ([0b01010111, 0x10], .sreZpx_57 0x10),
  ([0b01011000], .cli), ([0b01011001, 0x34, 0x12], .eorAbsy 0x1234),
  ([0b01011010], .nop_5A), ([0b01011011, 0x34, 0x12], .sreAbsy_5B 0x1234),
  ([0b01011100, 0x34, 0x12], .nopAbsx_5C 0x1234), ([0b01011101, 0x34, 0x12], .eorAbsx 0x1234),
  ([0b01011110, 0x34, 0x12], .lsrAbsx 0x1234), ([0b01011111, 0x34, 0x12], .sreAbsx_5F 0x1234)] = true := by decide

theorem test_decode_line6 : allDecode [
  ([0b01100000], .rts), ([0b01100001, 0x10], .adcIzx 0x10),
  ([0b01100010], .kil_62), ([0b01100011, 0x10], .rraIzx_63 0x10),
  ([0b01100100, 0x10], .nopZp_64 0x10), ([0b01100101, 0x10], .adcZp 0x10),
  ([0b01100110, 0x10], .rorZp 0x10), ([0b01100111, 0x10], .rraZp_67 0x10),
  ([0b01101000], .pla), ([0b01101001, 0x10], .adcImm 0x10),
  ([0b01101010], .rorAcc), ([0b01101011, 0x10], .arrImm_6B 0x10),
  ([0b01101100, 0x34, 0x12], .jmpInd 0x1234), ([0b01101101, 0x34, 0x12], .adcAbs 0x1234),
  ([0b01101110, 0x34, 0x12], .rorAbs 0x1234), ([0b01101111, 0x34, 0x12], .rraAbs_6F 0x1234)] = true := by decide

theorem test_decode_line7 : allDecode [
  ([0b01110000, 0x10], .bvs 0x10), ([0b01110001, 0x10], .adcIzy 0x10),
  ([0b01110010], .kil_72), ([0b01110011, 0x10], .rraIzy_73 0x10),
  ([0b01110100, 0x10], .nopZpx_74 0x10), ([0b01110101, 0x10], .adcZpx 0x10),
  ([0b01110110, 0x10], .rorZpx 0x10), ([0b01110111, 0x10], .rraZpx_77 0x10),
  ([0b01111000], .sei), ([0b01111001, 0x34, 0x12], .adcAbsy 0x1234),
  ([0b01111010], .nop_7A), ([0b01111011, 0x34, 0x12], .rraAbsy_7B 0x1234),
  ([0b01111100, 0x34, 0x12], .nopAbsx_7C 0x1234), ([0b01111101, 0x34, 0x12], .adcAbsx 0x1234),
  ([0b01111110, 0x34, 0x12], .rorAbsx 0x1234), ([0b01111111, 0x34, 0x12], .rraAbsx_7F 0x1234)] = true := by decide

theorem test_decode_line8 : allDecode [
  ([0b10000000, 0x10], .nopImm_80 0x10), ([0b10000001, 0x10], .staIzx 0x10),
  ([0b10000010, 0x10], .nopImm_82 0x10), ([0b10000011, 0x10], .saxIzx_83 0x10),
  ([0b10000100, 0x10], .styZp 0x10), ([0b10000101, 0x10], .staZp 0x10),
  ([0b10000110, 0x10], .stxZp 0x10), ([0b10000111, 0x10], .saxZp_87 0x10),
  ([0b10001000], .dey), ([0b10001001, 0x10], .nopImm_89 0x10),
  ([0b10001010], .txa), ([0b10001011, 0x10], .xaaImm_8B 0x10),
  ([0b10001100, 0x34, 0x12], .styAbs 0x1234), ([0b10001101, 0x34, 0x12], .staAbs 0x1234),
  ([0b10001110, 0x34, 0x12], .stxAbs 0x1234), ([0b10001111, 0x34, 0x12], .saxAbs_8F 0x1234)] = true := by decide

theorem test_decode_line9 : allDecode [
  ([0b10010000, 0x10], .bcc 0x10), ([0b10010001, 0x10], .staIzy 0x10),
  ([0b10010010], .kil_92), ([0b10010011, 0x10], .ahxIzy_93 0x10),
  ([0b10010100, 0x10], .styZpx 0x10), ([0b10010101, 0x10], .staZpx 0x10),
  ([0b10010110, 0x10], .stxZpy 0x10), ([0b10010111, 0x10], .saxZpy_97 0x10),
  ([0b10011000], .tya), ([0b10011001, 0x34, 0x12], .staAbsy 0x1234),
  ([0b10011010], .txs), ([0b10011011, 0x34, 0x12], .tasAbsy_9B 0x1234),
  ([0b10011100, 0x34, 0x12], .shyAbsx_9C 0x1234), ([0b10011101, 0x34, 0x12], .staAbsx 0x1234),
  ([0b10011110, 0x34, 0x12], .shxAbsy_9E 0x1234), ([0b10011111, 0x34, 0x12], .ahxAbsy_9F 0x1234)] = true := by decide

theorem test_decode_lineA : allDecode [
  ([0b10100000, 0x10], .ldyImm 0x10), ([0b10100001, 0x10], .ldaIzx 0x10),
  ([0b10100010, 0x10], .ldxImm 0x10), ([0b10100011, 0x10], .laxIzx_A3 0x10),
  ([0b10100100, 0x10], .ldyZp 0x10), ([0b10100101, 0x10], .ldaZp 0x10),
  ([0b10100110, 0x10], .ldxZp 0x10), ([0b10100111, 0x10], .laxZp_A7 0x10),
  ([0b10101000], .tay), ([0b10101001, 0x10], .ldaImm 0x10),
  ([0b10101010], .tax), ([0b10101011, 0x10], .laxImm_AB 0x10),
  ([0b10101100, 0x34, 0x12], .ldyAbs 0x1234), ([0b10101101, 0x34, 0x12], .ldaAbs 0x1234),
  ([0b10101110, 0x34, 0x12], .ldxAbs 0x1234), ([0b10101111, 0x34, 0x12], .laxAbs_AF 0x1234)] = true := by decide

theorem test_decode_lineB : allDecode [
  ([0b10110000, 0x10], .bcs 0x10), ([0b10110001, 0x10], .ldaIzy 0x10),
  ([0b10110010], .kil_B2), ([0b10110011, 0x10], .laxIzy_B3 0x10),
  ([0b10110100, 0x10], .ldyZpx 0x10), ([0b10110101, 0x10], .ldaZpx 0x10),
  ([0b10110110, 0x10], .ldxZpy 0x10), ([0b10110111, 0x10], .laxZpy_B7 0x10),
  ([0b10111000], .clv), ([0b10111001, 0x34, 0x12], .ldaAbsy 0x1234),
  ([0b10111010], .tsx), ([0b10111011, 0x34, 0x12], .lasAbsy_BB 0x1234),
  ([0b10111100, 0x34, 0x12], .ldyAbsx 0x1234), ([0b10111101, 0x34, 0x12], .ldaAbsx 0x1234),
  ([0b10111110, 0x34, 0x12], .ldxAbsy 0x1234), ([0b10111111, 0x34, 0x12], .laxAbsy_BF 0x1234)] = true := by decide

theorem test_decode_lineC : allDecode [
  ([0b11000000, 0x10], .cpyImm 0x10), ([0b11000001, 0x10], .cmpIzx 0x10),
  ([0b11000010, 0x10], .nopImm_C2 0x10), ([0b11000011, 0x10], .dcpIzx_C3 0x10),
  ([0b11000100, 0x10], .cpyZp 0x10), ([0b11000101, 0x10], .cmpZp 0x10),
  ([0b11000110, 0x10], .decZp 0x10), ([0b11000111, 0x10], .dcpZp_C7 0x10),
  ([0b11001000], .iny), ([0b11001001, 0x10], .cmpImm 0x10),
  ([0b11001010], .dex), ([0b11001011, 0x10], .axsImm_CB 0x10),
  ([0b11001100, 0x34, 0x12], .cpyAbs 0x1234), ([0b11001101, 0x34, 0x12], .cmpAbs 0x1234),
  ([0b11001110, 0x34, 0x12], .decAbs 0x1234), ([0b11001111, 0x34, 0x12], .dcpAbs_CF 0x1234)] = true := by decide

theorem test_decode_lineD : allDecode [
  ([0b11010000, 0x10], .bne 0x10), ([0b11010001, 0x10], .cmpIzy 0x10),
  ([0b11010010], .kil_D2), ([0b11010011, 0x10], .dcpIzy_D3 0x10),
  ([0b11010100, 0x10], .nopZpx_D4 0x10), ([0b11010101, 0x10], .cmpZpx 0x10),
  ([0b11010110, 0x10], .decZpx 0x10), ([0b11010111, 0x10], .dcpZpx_D7 0x10),
  ([0b11011000], .cld), ([0b11011001, 0x34, 0x12], .cmpAbsy 0x1234),
  ([0b11011010], .nop_DA), ([0b11011011, 0x34, 0x12], .dcpAbsy_DB 0x1234),
  ([0b11011100, 0x34, 0x12], .nopAbsx_DC 0x1234), ([0b11011101, 0x34, 0x12], .cmpAbsx 0x1234),
  ([0b11011110, 0x34, 0x12], .decAbsx 0x1234), ([0b11011111, 0x34, 0x12], .dcpAbsx_DF 0x1234)] = true := by decide

theorem test_decode_lineE : allDecode [
  ([0b11100000, 0x10], .cpxImm 0x10), ([0b11100001, 0x10], .sbcIzx 0x10),
  ([0b11100010, 0x10], .nopImm_E2 0x10), ([0b11100011, 0x10], .iscIzx_E3 0x10),
  ([0b11100100, 0x10], .cpxZp 0x10), ([0b11100101, 0x10], .sbcZp 0x10),
  ([0b11100110, 0x10], .incZp 0x10), ([0b11100111, 0x10], .iscZp_E7 0x10),
  ([0b11101000], .inx), ([0b11101001, 0x10], .sbcImm 0x10),
  ([0b11101010], .nop), ([0b11101011, 0x10], .sbcImm_EB 0x10),
  ([0b11101100, 0x34, 0x12], .cpxAbs 0x1234), ([0b11101101, 0x34, 0x12], .sbcAbs 0x1234),
  ([0b11101110, 0x34, 0x12], .incAbs 0x1234), ([0b11101111, 0x34, 0x12], .iscAbs_EF 0x1234)] = true := by decide

theorem test_decode_lineF : allDecode [
  ([0b11110000, 0x10], .beq 0x10), ([0b11110001, 0x10], .sbcIzy 0x10),
  ([0b11110010], .kil_F2), ([0b11110011, 0x10], .iscIzy_F3 0x10),
  ([0b11110100, 0x10], .nopZpx_F4 0x10), ([0b11110101, 0x10], .sbcZpx 0x10),
  ([0b11110110, 0x10], .incZpx 0x10), ([0b11110111, 0x10], .iscZpx_F7 0x10),
  ([0b11111000], .sed), ([0b11111001, 0x34, 0x12], .sbcAbsy 0x1234),
  ([0b11111010], .nop_FA), ([0b11111011, 0x34, 0x12], .iscAbsy_FB 0x1234),
  ([0b11111100, 0x34, 0x12], .nopAbsx_FC 0x1234), ([0b11111101, 0x34, 0x12], .sbcAbsx 0x1234),
  ([0b11111110, 0x34, 0x12], .incAbsx 0x1234), ([0b11111111, 0x34, 0x12], .iscAbsx_FF 0x1234)] = true := by decide

/-- R62: an instruction's bytes that end too soon do not decode, nor do no bytes. -/
theorem test_decode_truncated :
    decodesTo [0b10101101, 0x34] (.ldaAbs 0x34) = false ∧ decodesTo [] .brk = false := by decide

/-- The opcode table's numbering: the opcode is the low byte, and the bits above the row's are 0. -/
theorem test_decode_table_word :
    decodeTableWord 16 0x10A9 = some (.ldaImm 0x10) ∧ decodeTableWord 24 0x1234AD = some (.ldaAbs 0x1234) ∧
    decodeTableWord 8 0x12AD = some (.ldaAbs 0) := by decide

/-! ### Single-instruction vectors -/

/-- The parameters of the vectors' conventions. -/
def vectorConfig : Config := { Config.default with nmiDelay := 15, frameCycles := 1, endPc := 0x0200 }

/-- The start state of the vectors' conventions: PC = 0x0200, SP = 0xFD, P = 0x24, all else as after reset. -/
def start : State := { State.reset with sp := 0xFD, pc := 0x0200, cfg := vectorConfig }

/-- The start state with other flags, given as a status byte. -/
def withP (p : Byte) (s : State) : State := { s with p := Flags.fromByte p }

/-- Bytes placed at addresses, one each. -/
def withBytes (l : List (Word × Byte)) (s : State) : State := l.foldl (fun s c => placeByte c.1 c.2 s) s

/-- The state with bytes of code at its PC. -/
def withCode (code : List Byte) (s : State) : State := placeBytes s.pc code s

/-- The next state; the reset state stands for a stop. -/
def nextOr (r : Result) : State :=
  match r with
  | .next s => s
  | _ => State.reset

/-- The state after the one step that runs the bytes of code. -/
def after (code : List Byte) (s : State) : State := nextOr (step (withCode code s))

/-- A, X, Y, SP, PC, the status byte and the cycle counter. -/
def regs (s : State) : List Nat :=
  [s.a.toNat, s.x.toNat, s.y.toNat, s.sp.toNat, s.pc.toNat, s.p.toByte.toNat, s.cycles]

/-- The register of the accumulator, and the status byte. -/
def aAndP (s : State) : List Nat := [s.a.toNat, s.p.toByte.toNat]

set_option maxRecDepth 8000

/-! #### Addressing modes (vectors A), loads, stores, transfers, stack (vectors L) -/

/-- A1. -/
theorem test_lda_zpx_wraps :
    regs (after [0xB5, 0xFF] (withBytes [(0x1, 0x77)] { start with x := 0x2 })) =
      [0x77, 0x2, 0x0, 0xfd, 0x202, 0x24, 4] := by decide

/-- A2. -/
theorem test_lda_absy_crosses :
    regs (after [0xB9, 0xF0, 0x02] (withBytes [(0x300, 0x99)] { start with y := 0x10 })) =
      [0x99, 0x0, 0x10, 0xfd, 0x203, 0xa4, 5] := by decide

/-- A5's address with ORA: 0xAB with A = 0 (R80, R108). -/
theorem test_ora_izx_wraps :
    regs (after [0x01, 0xFE] (withBytes [(0xFF, 0x34), (0x0, 0x03), (0x334, 0xAB)] { start with x := 0x1 })) =
      [0xab, 0x1, 0x0, 0xfd, 0x202, 0xa4, 6] := by decide

/-- A6's pointer with CMP: A = 0xCD equals the byte at 0x0334 (R81, R111). -/
theorem test_cmp_izy_pointer_wraps :
    regs (after [0xD1, 0xFF] (withBytes [(0xFF, 0x33), (0x0, 0x03), (0x334, 0xCD)] { start with y := 0x1, a := 0xcd })) =
      [0xcd, 0x0, 0x1, 0xfd, 0x202, 0x27, 5] := by decide

/-- A7's address with EOR: 0xEE with A = 0 (R81, R84, R109). -/
theorem test_eor_izy_crosses :
    regs (after [0x51, 0x20] (withBytes [(0x20, 0xF8), (0x21, 0x04), (0x508, 0xEE)] { start with y := 0x10 })) =
      [0xee, 0x0, 0x10, 0xfd, 0x202, 0xa4, 6] := by decide

/-- A8. -/
theorem test_ldx_zpy :
    regs (after [0xB6, 0xF0] (withBytes [(0x10, 0x80)] { start with y := 0x20 })) =
      [0x0, 0x80, 0x20, 0xfd, 0x202, 0xa4, 4] := by decide

/-- A9. -/
theorem test_jmp_indirect_page_bug :
    regs (after [0x6C, 0xFF, 0x02] (withBytes [(0x2FF, 0x00), (0x200, 0x04), (0x300, 0x05)]
      { start with pc := 0x0400 })) = [0, 0, 0, 0xFD, 0x400, 0x24, 5] := by decide

/-- A12. -/
theorem test_nop_pc_wraps :
    regs (after [0xEA] { start with pc := 0xFFFF }) = [0, 0, 0, 0xFD, 0x0000, 0x24, 2] := by decide

/-- L3. -/
theorem test_ldx_zero :
    regs (after [0xA2, 0x00] (withP 0xA4 start)) = [0x0, 0x0, 0x0, 0xfd, 0x202, 0x26, 2] := by decide

/-- L4. -/
theorem test_ldy_negative :
    regs (after [0xA0, 0xFF] start) = [0x0, 0x0, 0xff, 0xfd, 0x202, 0xa4, 2] := by decide

/-- A4, with A = 7. -/
theorem test_sta_absx_no_page_cycle :
    let t := after [0x9D, 0xF0, 0x02] ({ start with a := 0x7, x := 0x10 })
    t.ram.read 0x300 = 0x7 ∧ regs t = [0x7, 0x10, 0x0, 0xfd, 0x203, 0x24, 5] := by decide

/-- L5. -/
theorem test_sta_zp :
    let t := after [0x85, 0x10] ({ start with a := 0x5a })
    t.ram.read 0x10 = 0x5a ∧ regs t = [0x5a, 0x0, 0x0, 0xfd, 0x202, 0x24, 3] := by decide

/-- L6, over a byte that is not 0. -/
theorem test_stx_zero_keeps_flags :
    let t := after [0x86, 0x10] (withBytes [(0x10, 0x55)] start)
    t.ram.read 0x10 = 0x0 ∧ regs t = [0x0, 0x0, 0x0, 0xfd, 0x202, 0x24, 3] := by decide

/-- L7. -/
theorem test_sty_abs :
    let t := after [0x8C, 0x00, 0x03] ({ start with y := 0x7f })
    t.ram.read 0x300 = 0x7f ∧ regs t = [0x0, 0x0, 0x7f, 0xfd, 0x203, 0x24, 4] := by decide

/-- L8. -/
theorem test_tax :
    regs (after [0xAA] ({ start with x := 0x9 })) = [0x0, 0x0, 0x0, 0xfd, 0x201, 0x26, 2] := by decide

/-- L9. -/
theorem test_tay :
    regs (after [0xA8] ({ start with a := 0x90 })) = [0x90, 0x0, 0x90, 0xfd, 0x201, 0xa4, 2] := by decide

/-- L10. -/
theorem test_txa :
    regs (after [0x8A] ({ start with x := 0x1 })) = [0x1, 0x1, 0x0, 0xfd, 0x201, 0x24, 2] := by decide

/-- L11. -/
theorem test_tya :
    regs (after [0x98] (withP 0xA4 { start with a := 0x5 })) = [0x0, 0x0, 0x0, 0xfd, 0x201, 0x26, 2] := by decide

/-- L12. -/
theorem test_tsx :
    regs (after [0xBA] ({ start with sp := 0xfc })) = [0x0, 0xfc, 0x0, 0xfc, 0x201, 0xa4, 2] := by decide

/-- L13. -/
theorem test_txs :
    regs (after [0x9A] start) = [0x0, 0x0, 0x0, 0x0, 0x201, 0x24, 2] := by decide

/-- L15. -/
theorem test_pha_wraps :
    let t := after [0x48] ({ start with sp := 0x0, a := 0x42 })
    t.ram.read 0x100 = 0x42 ∧ regs t = [0x42, 0x0, 0x0, 0xff, 0x201, 0x24, 3] := by decide

/-- L16. -/
theorem test_pla_wraps :
    regs (after [0x68] ({ start with sp := 0xff, a := 0x1 })) = [0x0, 0x0, 0x0, 0x0, 0x201, 0x26, 4] := by decide

/-- L17. -/
theorem test_php_forces_b_u :
    let t := after [0x08] (withP 0x00 start)
    t.ram.read 0x1fd = 0x30 ∧ regs t = [0x0, 0x0, 0x0, 0xfc, 0x201, 0x0, 3] := by decide

/-- L19. -/
theorem test_plp_zero :
    regs (after [0x28] start) = [0x0, 0x0, 0x0, 0xfe, 0x201, 0x0, 4] := by decide

/-- L20. -/
theorem test_plp_ones :
    regs (after [0x28] (withBytes [(0x1FE, 0xFF)] start)) = [0x0, 0x0, 0x0, 0xfe, 0x201, 0xff, 4] := by decide

/-! #### Arithmetic and logic (vectors S, M), shifts (vectors H) -/

/-- S7. -/
theorem test_adc_overflow :
    aAndP (after [0x69, 0xAA] (withP 0x25 { start with a := 0xcc })) = [0x77, 0x65] := by decide

/-- M4. -/
theorem test_adc_decimal_keeps_z :
    aAndP (after [0x69, 0x01] (withP 0x2C { start with a := 0xff })) = [0x0, 0x2d] := by decide

/-- M11. -/
theorem test_sbc_borrow_overflow :
    aAndP (after [0xE9, 0xB0] (withP 0x25 { start with a := 0x50 })) = [0xa0, 0xe4] := by decide

/-- M12. -/
theorem test_sbc_decimal_keeps_z :
    aAndP (after [0xE9, 0x01] (withP 0x2D { start with a := 0x1 })) = [0x0, 0x2d] := by decide

/-- M14. -/
theorem test_and :
    aAndP (after [0x29, 0x0F] ({ start with a := 0xf0 })) = [0x0, 0x26] := by decide

/-- M15. -/
theorem test_ora :
    aAndP (after [0x09, 0x80] ({ start with a := 0x1 })) = [0x81, 0xa4] := by decide

/-- M17. -/
theorem test_bit :
    aAndP (after [0x24, 0x10] (withBytes [(0x10, 0xC0)] { start with a := 0x1 })) = [0x1, 0xe6] := by decide

/-- M20. -/
theorem test_cmp_borrow :
    aAndP (after [0xC9, 0x11] ({ start with a := 0x10 })) = [0x10, 0xa4] := by decide

/-- M23. -/
theorem test_cpx :
    regs (after [0xE0, 0x00] start) = [0x0, 0x0, 0x0, 0xfd, 0x202, 0x27, 2] := by decide

/-- M24. -/
theorem test_cpy :
    regs (after [0xC0, 0x80] ({ start with y := 0x7f })) = [0x0, 0x0, 0x7f, 0xfd, 0x202, 0xa4, 2] := by decide

/-- M25. -/
theorem test_inc_wraps :
    let t := after [0xE6, 0x10] (withBytes [(0x10, 0xFF)] start)
    t.ram.read 0x10 = 0x0 ∧ regs t = [0x0, 0x0, 0x0, 0xfd, 0x202, 0x26, 5] := by decide

/-- M26. -/
theorem test_dec_wraps :
    let t := after [0xC6, 0x10] start
    t.ram.read 0x10 = 0xff ∧ regs t = [0x0, 0x0, 0x0, 0xfd, 0x202, 0xa4, 5] := by decide

/-- M27. -/
theorem test_inx :
    regs (after [0xE8] ({ start with x := 0xff })) = [0x0, 0x0, 0x0, 0xfd, 0x201, 0x26, 2] := by decide

/-- M28. -/
theorem test_iny :
    regs (after [0xC8] ({ start with y := 0x7f })) = [0x0, 0x0, 0x80, 0xfd, 0x201, 0xa4, 2] := by decide

/-- M29. -/
theorem test_dex :
    regs (after [0xCA] ({ start with x := 0x1 })) = [0x0, 0x0, 0x0, 0xfd, 0x201, 0x26, 2] := by decide

/-- M30. -/
theorem test_dey :
    regs (after [0x88] start) = [0x0, 0x0, 0xff, 0xfd, 0x201, 0xa4, 2] := by decide

/-- H1. -/
theorem test_asl_acc :
    aAndP (after [0x0A] ({ start with a := 0xc1 })) = [0x82, 0xa5] := by decide

/-- H3. -/
theorem test_asl_zp :
    let t := after [0x06, 0x10] (withBytes [(0x10, 0x81)] start)
    t.ram.read 0x10 = 0x2 ∧ regs t = [0x0, 0x0, 0x0, 0xfd, 0x202, 0x25, 5] := by decide

/-- H4. -/
theorem test_lsr_acc :
    aAndP (after [0x4A] ({ start with a := 0x1 })) = [0x0, 0x27] := by decide

/-- H6. -/
theorem test_rol_acc :
    aAndP (after [0x2A] (withP 0x25 { start with a := 0x40 })) = [0x81, 0xa4] := by decide

/-- H9. -/
theorem test_ror_acc :
    aAndP (after [0x6A] (withP 0x25 start)) = [0x80, 0xa4] := by decide

/-- H10. -/
theorem test_ror_zpx :
    let t := after [0x76, 0x0F] (withBytes [(0x10, 0x02)] (withP 0x25 { start with x := 0x1 }))
    t.ram.read 0x10 = 0x81 ∧ regs t = [0x0, 0x1, 0x0, 0xfd, 0x202, 0xa4, 6] := by decide

/-! #### Control (vectors B), flags and illegal opcodes (vectors F) -/

/-- B1. -/
theorem test_bne_taken :
    regs (after [0xD0, 0x05] (withP 0x24 start)) = [0x0, 0x0, 0x0, 0xfd, 0x207, 0x24, 3] := by decide

/-- B2. -/
theorem test_bne_not_taken :
    regs (after [0xD0, 0x05] (withP 0x26 start)) = [0x0, 0x0, 0x0, 0xfd, 0x202, 0x26, 2] := by decide

/-- B3. -/
theorem test_bcc :
    regs (after [0x90, 0xFE] (withP 0x24 start)) = [0x0, 0x0, 0x0, 0xfd, 0x200, 0x24, 3] := by decide

/-- B4. -/
theorem test_bcs :
    regs (after [0xB0, 0x02] (withP 0x25 start)) = [0x0, 0x0, 0x0, 0xfd, 0x204, 0x25, 3] := by decide

/-- B5. -/
theorem test_beq_page :
    regs (after [0xF0, 0xFD] (withP 0x26 start)) = [0x0, 0x0, 0x0, 0xfd, 0x1ff, 0x26, 4] := by decide

/-- B6. -/
theorem test_bmi :
    regs (after [0x30, 0x7F] (withP 0xA4 start)) = [0x0, 0x0, 0x0, 0xfd, 0x281, 0xa4, 3] := by decide

/-- B7. -/
theorem test_bpl_page :
    regs (after [0x10, 0x80] (withP 0x24 start)) = [0x0, 0x0, 0x0, 0xfd, 0x182, 0x24, 4] := by decide

/-- B8. -/
theorem test_bvc :
    regs (after [0x50, 0x02] (withP 0x64 start)) = [0x0, 0x0, 0x0, 0xfd, 0x202, 0x64, 2] := by decide

/-- B9. -/
theorem test_bvs :
    regs (after [0x70, 0x02] (withP 0x64 start)) = [0x0, 0x0, 0x0, 0xfd, 0x204, 0x64, 3] := by decide

/-- B10. -/
theorem test_jmp_abs :
    regs (after [0x4C, 0x00, 0x03] start) = [0x0, 0x0, 0x0, 0xfd, 0x300, 0x24, 3] := by decide

/-- B11. -/
theorem test_jsr :
    let t := after [0x20, 0x00, 0x03] start
    t.ram.read 0x1fd = 0x2 ∧ regs t = [0x0, 0x0, 0x0, 0xfb, 0x300, 0x24, 6] := by decide

/-- B12. -/
theorem test_rts :
    regs (after [0x60] (withBytes [(0x1FC, 0x02), (0x1FD, 0x80)] { start with sp := 0xfb })) =
      [0x0, 0x0, 0x0, 0xfd, 0x8003, 0x24, 6] := by decide

/-- B13. -/
theorem test_rts_pc_wraps :
    regs (after [0x60] (withBytes [(0x1FC, 0xFF), (0x1FD, 0xFF)] { start with sp := 0xfb })) =
      [0x0, 0x0, 0x0, 0xfd, 0x0, 0x24, 6] := by decide

/-- B15. -/
theorem test_brk_pushes_status :
    let t := after [0x00] (withBytes [(0xFFFE, 0x00), (0xFFFF, 0x90)] (withP 0x20 start))
    t.ram.read 0x1fb = 0x30 ∧ regs t = [0x0, 0x0, 0x0, 0xfa, 0x9000, 0x24, 7] := by decide

/-- B14. -/
theorem test_brk_pushes_return_address :
    let t := after [0x00] (withBytes [(0xFFFE, 0x00), (0xFFFF, 0x90)] start)
    (t.ram.read 0x1FD, t.ram.read 0x1FC, t.ram.read 0x1FB, t.pc) = (0x02, 0x02, 0x34, 0x9000) := by decide

/-- B16, from the state B14 leaves. -/
theorem test_rti :
    regs (after [0x40] (withBytes [(0x1FD, 0x02), (0x1FC, 0x02), (0x1FB, 0x34)] { start with sp := 0xfa })) =
      [0x0, 0x0, 0x0, 0xfd, 0x202, 0x34, 6] := by decide

/-- F1. -/
theorem test_clc :
    regs (after [0x18] (withP 0xFF start)) = [0x0, 0x0, 0x0, 0xfd, 0x201, 0xfe, 2] := by decide

/-- F2. -/
theorem test_sec :
    regs (after [0x38] (withP 0x00 start)) = [0x0, 0x0, 0x0, 0xfd, 0x201, 0x1, 2] := by decide

/-- F3. -/
theorem test_cli :
    regs (after [0x58] (withP 0x24 start)) = [0x0, 0x0, 0x0, 0xfd, 0x201, 0x20, 2] := by decide

/-- F4. -/
theorem test_sei :
    regs (after [0x78] (withP 0x20 start)) = [0x0, 0x0, 0x0, 0xfd, 0x201, 0x24, 2] := by decide

/-- F5. -/
theorem test_cld :
    regs (after [0xD8] (withP 0x2C start)) = [0x0, 0x0, 0x0, 0xfd, 0x201, 0x24, 2] := by decide

/-- F6. -/
theorem test_sed :
    regs (after [0xF8] (withP 0x24 start)) = [0x0, 0x0, 0x0, 0xfd, 0x201, 0x2c, 2] := by decide

/-- F7. -/
theorem test_clv :
    regs (after [0xB8] (withP 0x64 start)) = [0x0, 0x0, 0x0, 0xfd, 0x201, 0x24, 2] := by decide

/-- F9. -/
theorem test_illegal_nop_faults :
    let t := after [0x1A] start
    (t.pc, t.cycles, t.fault, t.diag) = (0x201, 2, some (.illegalOpcode 0x1A 0x0200), []) := by decide

/-- F10. -/
theorem test_illegal_nop_logged :
    let t := after [0x1A] { start with cfg := { vectorConfig with illegalPolicy := .nop } }
    (t.pc, t.cycles, t.fault, t.diag) = (0x201, 2, none, [.illegalOpcodeNop 0x1A 0x0200]) := by decide

/-- F11. -/
theorem test_illegal_nop_abs_reads_nothing :
    let t := after [0x0C, 0x02, 0x20] { start with
      cfg := { vectorConfig with illegalPolicy := .nop }
      ppu := { start.ppu with nmiOccurred := true } }
    (t.pc, t.cycles, t.ppu.nmiOccurred) = (0x203, 4, true) := by decide

/-- F12. -/
theorem test_illegal_nop_page_cycle :
    let t := after [0x1C, 0xF0, 0x02] { start with cfg := { vectorConfig with illegalPolicy := .nop }, x := 0x10 }
    (t.pc, t.cycles) = (0x203, 5) := by decide

/-- F13. -/
theorem test_illegal_kil_goes_on :
    let t := after [0x02] { start with cfg := { vectorConfig with illegalPolicy := .nop } }
    (t.pc, t.cycles, t.fault, t.diag) = (0x201, 2, none, [.illegalOpcodeNop 0x02 0x0200]) := by decide

/-! #### Translators and mapper (vectors S, T) -/

/-- S10, S11, T1, T2. -/
theorem test_cpu_translate :
    [cpuTranslate 0x0800, cpuTranslate 0x1800, cpuTranslate 0x1FFF, cpuTranslate 0x2008, cpuTranslate 0x2088,
      cpuTranslate 0x3FFF] =
    [⟨.ram, 0⟩, ⟨.ram, 0⟩, ⟨.ram, 0x7FF⟩, ⟨.ppuReg, 0x2000⟩, ⟨.ppuReg, 0x2000⟩, ⟨.ppuReg, 0x2007⟩] := by decide

/-- S13, T4. -/
theorem test_invalid_access :
    (memRead 0x4020 start).1 = 0 ∧ (memRead 0x5FFF start).2.diag = [.invalidRead 0x5FFF] ∧
    (memRead 0x4014 start).2.diag = [.invalidRead 0x4014] ∧
    (memWrite 0x5000 0x12 start).diag = [.invalidWrite 0x5000 0x12] := by decide

/-- S14, T5, T6. -/
theorem test_mapper :
    let s := { start with cart := { start.cart with prg := [(0, 0x11), (0x3FFF, 0x77)] } }
    (memRead 0xFFFF s).1 = 0x77 ∧ (memRead 0xC000 s).1 = 0x11 ∧ (memWrite 0x8000 0x55 s).cart = s.cart ∧
    (memRead 0x6000 (memWrite 0x6000 0x12 s)).1 = 0x12 := by decide

/-- T8. -/
theorem test_nametable_index :
    [Mirror.horizontal, .vertical, .singleLower, .singleUpper, .fourScreen].map
      (fun m => [0x2000, 0x2400, 0x2800, 0x2C00].map (ntIndex m)) =
    [[0, 0, 0x400, 0x400], [0, 0x400, 0, 0x400], [0, 0, 0, 0], [0x400, 0x400, 0x400, 0x400],
      [0, 0x400, 0x800, 0xC00]] := by decide

/-- T9, T10. -/
theorem test_nametable_mirror :
    [0x2FFF, 0x3EFF, 0x3000].map (ntIndex .vertical) = [0x7FF, 0x6FF, 0] := by decide

/-- T11, T12. -/
theorem test_palette_index :
    [0x3F10, 0x3F14, 0x3F18, 0x3F1C, 0x3F04, 0x3F11, 0x3F20].map palIndex = [0, 4, 8, 0xC, 4, 0x11, 0] := by decide

/-! #### Interrupts (vectors I) -/

/-- The start state of the interrupt vectors: a NOP at PC = 0x8123, the vectors 0x9000 and 0xA000. -/
def startInterrupt : State :=
  withBytes [(0xFFFE, 0x00), (0xFFFF, 0xA0), (0xFFFA, 0x00), (0xFFFB, 0x90), (0x8123, 0xEA)]
    { start with pc := 0x8123 }

/-- I1. -/
theorem test_irq_taken :
    let t := nextOr (step { withP 0x20 startInterrupt with pending := some .irq })
    (t.ram.read 0x1FD, t.ram.read 0x1FC, t.ram.read 0x1FB, t.pending) = (0x81, 0x23, 0x20, none) ∧
    regs t = [0, 0, 0, 0xFA, 0xA000, 0x24, 7] := by decide

/-- I2. -/
theorem test_irq_masked_retained :
    let t := nextOr (step { startInterrupt with pending := some .irq })
    (t.pc, t.cycles, t.pending) = (0x8124, 2, some .irq) := by decide

/-- I3. -/
theorem test_irq_masked_dropped :
    let t := nextOr (step { startInterrupt with
      pending := some .irq, cfg := { vectorConfig with irqMaskedPolicy := .drop } })
    (t.pc, t.cycles, t.pending) = (0x8124, 2, none) := by decide

/-- I4. -/
theorem test_nmi_with_i_set :
    let t := nextOr (step { withP 0xFF startInterrupt with pending := some .nmi })
    t.ram.read 0x1FB = 0xEF ∧ regs t = [0, 0, 0, 0xFA, 0x9000, 0xFF, 7] := by decide

/-- R151: the request of the step's own sample is serviced in that step. -/
theorem test_irq_sampled_and_taken :
    let t := nextOr (step { withP 0x20 startInterrupt with irqInput := [true] })
    (t.pc, t.pending, t.irqInput) = (0xA000, none, []) := by decide

/-! #### The PPU registers, the sequencer, DMA and reset (vectors P, N, D, O, R) -/

/-- P1. -/
theorem test_ppuctrl :
    let p := (memWrite 0x2000 0x93 start).ppu
    (p.t, p.ctrl, p.regLatch) = (0x0C00, ⟨false, false, true, false, false, true⟩, 0x93) := by decide

/-- P3. -/
theorem test_ppustatus :
    let s := memWrite 0x2001 0x1F start
    let r := memRead 0x2002 { s with ppu := { s.ppu with nmiOccurred := true, w := true } }
    (r.1, r.2.ppu.nmiOccurred, r.2.ppu.w, (memRead 0x2002 r.2).1) = (0x9F, false, false, 0x1F) := by decide

/-- P4, P5. -/
theorem test_ppuscroll :
    let s := memWrite 0x2005 0x7D start
    let u := memWrite 0x2005 0x5E s
    (s.ppu.t, s.ppu.x, s.ppu.w, u.ppu.t, u.ppu.w) = (0x000F, 5, true, 0x616F, false) := by decide

/-- P7, P8. -/
theorem test_ppuaddr :
    let s := memWrite 0x2006 0x21 { start with ppu := { start.ppu with t := 0x7FFF } }
    let u := memWrite 0x2006 0x08 s
    (s.ppu.t, u.ppu.t, u.ppu.v, u.ppu.w) = (0x21FF, 0x2108, 0x2108, false) := by decide

/-- P9. -/
theorem test_ppudata_steps_by_32 :
    let s := memWrite 0x2006 0x00 (memWrite 0x2006 0x20 (memWrite 0x2000 0x04 start))
    let u := memWrite 0x2007 0xBB (memWrite 0x2007 0xAA s)
    (u.ppu.vram, u.ppu.v) = ([(0x000, 0xAA), (0x020, 0xBB)], 0x2040) := by decide

/-- P10. -/
theorem test_ppudata_palette_read :
    let s := { start with ppu := { start.ppu with palette := [(1, 0x2A)], vram := [(0x701, 0x66)] } }
    let r := memRead 0x2007 (memWrite 0x2006 0x01 (memWrite 0x2006 0x3F s))
    (r.1, r.2.ppu.readBuffer, r.2.ppu.v) = (0x2A, 0x66, 0x3F02) := by decide

/-- P12, P13. -/
theorem test_ppudata_palette_write :
    (memWrite 0x2007 0x0F { start with ppu := { start.ppu with v := 0x3F10 } }).ppu.palette = [(0x00, 0x0F)] ∧
    (memWrite 0x2007 0x0F { start with ppu := { start.ppu with v := 0x3F1D } }).ppu.palette = [(0x1D, 0x0F)] := by decide

/-- P14. -/
theorem test_oamdata :
    let s := memWrite 0x2004 0x55 (memWrite 0x2003 0xFF start)
    (s.ppu.oam, s.ppu.oamAddr) = ([(0xFF, 0x55)], 0x00) := by decide

/-- P16. -/
theorem test_ppuctrl_read :
    ((memRead 0x2000 start).1, (memRead 0x2000 start).2.diag) = (0, [.invalidRead 0x2000]) := by decide

/-- N2: enabled at (241, 50), the slot is written in the 15th following dot. -/
theorem test_nmi_delay :
    let s := memWrite 0x2000 0x80
      { start with ppu := { start.ppu with scanline := 241, dot := 50, nmiOccurred := true } }
    (s.ppu.nmiDelay, s.pending, (ppuRun 14 s).pending, (ppuRun 15 s).pending, (ppuRun 15 s).ppu.dot) =
      (15, none, none, some .nmi, 65) := by decide

/-- N3. -/
theorem test_nmi_suppressed_by_status_read :
    let s := { start with ppu := { start.ppu with
      scanline := 241, dot := 6, nmiOccurred := true, nmiPrevious := true, nmiDelay := 10,
      ctrl := { start.ppu.ctrl with nmiOutput := true } } }
    let r := memRead 0x2002 s
    (r.1, r.2.ppu.nmiDelay, (ppuRun 10 r.2).pending) = (0x80, 10, none) := by decide

/-- N1, N6: vertical blank begins on arriving at (241, 1) and ends at (261, 1). -/
theorem test_vblank_events :
    (ppuStep { start with ppu := { start.ppu with scanline := 241, dot := 0 } }).ppu.nmiOccurred = true ∧
    (ppuStep { start with ppu := { start.ppu with
      scanline := 261, dot := 0, nmiOccurred := true } }).ppu.nmiOccurred = false := by decide

/-- D1 to D5. -/
theorem test_scroll_steps :
    let p (v : BitVec 15) : Ppu := { start.ppu with v := v }
    [(p 0x001F).incX.v, (p 0x041F).incX.v, (p 0x73A0).incY.v, (p 0x73E0).incY.v, (p 0).incY.v] =
      [0x0400, 0, 0x0800, 0, 0x1000] := by decide

/-- D6, D7. -/
theorem test_scroll_copies :
    let p (v t : BitVec 15) : Ppu := { start.ppu with v := v, t := t }
    [(p 0 0x041F).copyX.v, (p 0x041F 0x7BE0).copyY.v] = [0x041F, 0x7FFF] := by decide

/-- D9, D10: the last dot of an odd frame, with the parameter's two values. -/
theorem test_odd_frame_skip :
    let s := { start with ppu := { start.ppu with scanline := 261, dot := 339, frame := 1, oddFrame := true } }
    let u := (ppuStep { s with cfg := { vectorConfig with oddSkipRequiresRendering := true } }).ppu
    ((ppuStep s).ppu.dot, (ppuStep s).ppu.scanline, (ppuStep s).ppu.frame, u.dot, u.scanline, u.frame) =
      (0, 0, 2, 340, 261, 1) := by decide

/-- O1, from page 3 with two of its bytes set. -/
theorem test_oam_dma :
    let s := withBytes [(0x300, 0x11), (0x3FF, 0x22)] { start with ppu := { start.ppu with oamAddr := 0x10 } }
    let u := memWrite 0x4014 0x03 s
    (u.ppu.oam, u.ppu.oamAddr, u.cycles) = ([(0x0F, 0x22), (0x10, 0x11)], 0x10, 513) := by decide

/-- R1. -/
theorem test_console_reset :
    let s := consoleReset (withBytes [(0xFFFC, 0x00), (0xFFFD, 0x80)] { start with a := 7, pending := some .nmi })
    (s.pc, s.sp, s.pending, s.a) = (0x8000, 0xFC, none, 7) := by decide

/-- R186: a NOP's step runs six dots. -/
theorem test_step_runs_three_dots_a_cycle :
    (after [0xEA] start).ppu.dot = 6 := by decide

/-- The first instruction after reset, placed by `withFetchWord`. -/
theorem test_fetch_word_runs :
    (nextOr (step (State.reset.withFetchWord 16 0x80A9))).a = 0x80 ∧
    (nextOr (step (State.reset.withFetchWord 24 0x0300A2))).x = 0 := by decide


/-! ### Witnesses: every obligation's hypotheses are met, each clause's at its boundary -/

/-- EncodeInvertsDecode: bytes that decode, with one byte left over. -/
theorem witness_EncodeInvertsDecode : decode [0xA9, 0x10, 0xEA] = .ok (.ldaImm 0x10, [0xEA]) := rfl

/-- TableTimingByMode: a documented read-only row. -/
theorem witness_TableTimingByMode :
    (lookup 0xB1).opClass = .documented ∧ (lookup 0xB1).mnemonic ∈ readOnlyMnemonics := by decide

/-- EncodingLinesMatch: a listed encoding. -/
theorem witness_EncodingLinesMatch : (⟨0x6C, .ind, 3, 5, 0⟩ : RuleEncoding) ∈ ruleEncodings .JMP := by decide

/-- LoadsPutOperandInRegister: each clause's instructions, with an immediate and with a memory operand. -/
theorem witness_LoadsPutOperandInRegister :
    Encodes .LDA (Instr.ldaImm 0) ∧ Encodes .LDA (Instr.ldaIzy 0xFF) ∧
    Encodes .LDX (Instr.ldxZpy 0) ∧ Encodes .LDY (Instr.ldyAbsx 0xFFFF) := by decide

/-- StoresMakeOneBusWrite: each store, in work RAM and on a device. -/
theorem witness_StoresMakeOneBusWrite :
    storedByte (.staAbs 0x4014) start = some start.a ∧ storedByte (.stxZpy 0xFF) start = some start.x ∧
    storedByte (.styAbs 0x2000) start = some start.y := by decide

/-- StoresToWorkRam: the first and the last address of the window. -/
theorem witness_StoresToWorkRam :
    start.ram.wf = true ∧
    storedByte (.staAbs 0x0000) start = some 0 ∧ (resolve (Instr.staAbs 0x0000).operand start).addr.toNat < 0x2000 ∧
    storedByte (.staAbs 0x1FFF) start = some 0 ∧ (resolve (Instr.staAbs 0x1FFF).operand start).addr.toNat < 0x2000 :=
  by decide

/-- PlainMemoryAccess: each clause at both ends of its range; no address lies in two of the three ranges. -/
theorem witness_PlainMemoryAccess :
    (0x0000 : Word).toNat < 0x2000 ∧ (0x1FFF : Word).toNat < 0x2000 ∧
    0x6000 ≤ (0x6000 : Word).toNat ∧ (0x7FFF : Word).toNat < 0x8000 ∧ start.cart.prgRam.wf = true ∧
    0x8000 ≤ (0x8000 : Word).toNat ∧ 0x8000 ≤ (0xFFFF : Word).toNat := by decide

/-- InvalidAccessesAreLogged: both ends of the two unmapped ranges. -/
theorem witness_InvalidAccessesAreLogged_unmapped :
    [(0x4000 : Word), 0x4014, 0x4018, 0x5FFF].all (fun a =>
      decide (0x4000 ≤ a.toNat ∧ a.toNat < 0x6000 ∧ (a.toNat < 0x4015 ∨ 0x4018 ≤ a.toNat))) = true := by decide

/-- InvalidAccessesAreLogged: each write-only register, at the ends of the window. -/
theorem witness_InvalidAccessesAreLogged_writeOnly :
    selectsPpu 0x2000 0 ∧ selectsPpu 0x3FF9 1 ∧ selectsPpu 0x2003 3 ∧ selectsPpu 0x3FFD 5 ∧ selectsPpu 0x2006 6 := by
  unfold selectsPpu; decide

/-- PushesStoreOneByte: both pushes. -/
theorem witness_PushesStoreOneByte :
    start.ram.wf = true ∧
    ((Instr.pha = .pha ∧ (0 : Byte) = start.a) ∨
      (Instr.pha = .php ∧ (0 : Byte) = Flags.toByte { start.p with b := true, u := true })) ∧
    ((Instr.php = .pha ∧ (0x34 : Byte) = start.a) ∨
      (Instr.php = .php ∧ (0x34 : Byte) = Flags.toByte { start.p with b := true, u := true })) := by decide

/-- AdcAddsWithCarry: an immediate, and a mode that can cross a page. -/
theorem witness_AdcAddsWithCarry :
    Encodes .ADC (Instr.adcImm 0xFF) ∧ Encodes .ADC (Instr.adcIzy 0) := by decide

/-- SbcSubtractsWithBorrow: an immediate, and a mode that can cross a page; the illegal row of SBC is another matter. -/
theorem witness_SbcSubtractsWithBorrow :
    Encodes .SBC (Instr.sbcImm 0xFF) ∧ Encodes .SBC (Instr.sbcAbsy 0) ∧
    ¬ Encodes .SBC (Instr.sbcImm_EB 0) := by decide

/-- LogicResults: each clause. -/
theorem witness_LogicResults :
    Encodes .AND (Instr.andImm 0) ∧ Encodes .ORA (Instr.oraIzx 0xFF) ∧
    Encodes .EOR (Instr.eorAbsx 0xFFFF) ∧ Encodes .BIT (Instr.bitAbs 0x2002) := by decide

/-- ComparesSetFlags: each disjunct. -/
theorem witness_ComparesSetFlags :
    Encodes .CMP (Instr.cmpIzx 0) ∧ Encodes .CPX (Instr.cpxImm 0xFF) ∧
    Encodes .CPY (Instr.cpyZp 0) := by decide

/-- ModifiesReadThenWrite: each mnemonic, on memory. -/
theorem witness_ModifiesReadThenWrite_memory :
    ∀ c ∈ [(Mnemonic.INC, Instr.incZp 0), (.DEC, .decAbsx 0x0200), (.ASL, .aslAbs 0x2007), (.LSR, .lsrZpx 0xFF),
        (.ROL, .rolAbs 0x4014), (.ROR, .rorAbs 0xFFFF)],
      Encodes c.1 c.2 ∧ c.2.operand ≠ .acc ∧ (modifiedByte c.1 0x80 start.p).isSome = true := by decide

/-- ModifiesReadThenWrite: the memory clause's hypotheses at one state: INC of 0xFF. -/
theorem witness_ModifiesReadThenWrite_value :
    let s := withBytes [(0x10, 0xFF)] start
    Encodes .INC (.incZp 0x10) ∧ (Instr.incZp 0x10).operand ≠ .acc ∧
    modifiedByte .INC (memRead (resolve (Instr.incZp 0x10).operand s).addr s).1 s.p =
      some (0, { s.p with z := true }) := by decide

/-- ModifiesReadThenWrite: each mnemonic in accumulator mode. -/
theorem witness_ModifiesReadThenWrite_accumulator :
    ∀ c ∈ [(Mnemonic.ASL, Instr.aslAcc), (.LSR, .lsrAcc), (.ROL, .rolAcc), (.ROR, .rorAcc)],
      Encodes c.1 c.2 ∧ c.2.operand = .acc ∧ (modifiedByte c.1 start.a start.p).isSome = true := by decide

/-- MemoryModifiesWorkRam: the first and the last address of the window. -/
theorem witness_MemoryModifiesWorkRam :
    start.ram.wf = true ∧ Encodes .DEC (.decAbs 0) ∧ Encodes .DEC (.decAbs 0x1FFF) ∧
    (Instr.decAbs 0).operand ≠ .acc ∧ (Instr.decAbs 0x1FFF).operand ≠ .acc ∧
    (resolve (Instr.decAbs 0).operand start).addr.toNat < 0x2000 ∧
    (resolve (Instr.decAbs 0x1FFF).operand start).addr.toNat < 0x2000 ∧
    modifiedByte .DEC (start.ram.read ((resolve (Instr.decAbs 0x1FFF).operand start).addr.toNat % 2048)) start.p =
      some (0xFF, { start.p with n := true }) := by decide

/-- BranchesTakeTheirCondition: every branch, and one both taken and not. -/
theorem witness_BranchesTakeTheirCondition :
    (∀ c ∈ [(Mnemonic.BCC, Instr.bcc 0x80), (.BCS, .bcs 0x80), (.BEQ, .beq 0x80), (.BNE, .bne 0x80),
        (.BMI, .bmi 0x80), (.BPL, .bpl 0x80), (.BVC, .bvc 0x80), (.BVS, .bvs 0x80)],
      Encodes c.1 c.2 ∧ c.2.operand = .rel 0x80 ∧ (branchTaken c.1 start.p).isSome = true) ∧
    branchTaken .BCC start.p = some true ∧ branchTaken .BCS start.p = some false := by decide

/-- JsrPushesReturnAddress, BrkTakesException: a canonical work RAM, with a stack that wraps. -/
theorem witness_JsrPushesReturnAddress : ({ start with sp := 0x00 } : State).ram.wf = true := by decide

theorem witness_BrkTakesException : ({ start with sp := 0x01 } : State).ram.wf = true := by decide

/-- JsrThenRtsReturns: a JSR that answers. -/
theorem witness_JsrThenRtsReturns :
    start.ram.wf = true ∧ ∃ t, exec (.jsr 0x0300) start = .next t := ⟨by decide, _, rfl⟩

/-- BrkThenRtiReturns: a BRK that answers. -/
theorem witness_BrkThenRtiReturns : start.ram.wf = true ∧ ∃ t, exec .brk start = .next t := ⟨by decide, _, rfl⟩

/-- IllegalOpcodesFollowPolicy: both policies. -/
theorem witness_IllegalOpcodesFollowPolicy :
    Instr.kil_02.isIllegal = true ∧ (Instr.iscAbsx_FF 0xFFFF).isIllegal = true ∧
    start.cfg.illegalPolicy = .fault ∧
    ({ start with cfg := { vectorConfig with illegalPolicy := .nop } } : State).cfg.illegalPolicy = .nop := by decide

/-- StepRunsDecodedInstruction: a program in work RAM, and one across the start of program ROM. -/
theorem witness_StepRunsDecodedInstruction :
    isPlain start.pc = true ∧ isPlain (start.pc + 1) = true ∧ isPlain (start.pc + 2) = true ∧
    isPlain 0x7FFE = true ∧ isPlain (0x7FFE + 1) = true ∧ isPlain (0x7FFE + 2) = true ∧
    start.fault = none ∧ serviceable (sampleIrq start).pending start.p.i = none := by decide

theorem witness_StepRunsDecodedInstruction_decode :
    let s := withCode [0xA9, 0x10] start
    decode [(memRead s.pc s).1, (memRead (s.pc + 1) s).1, (memRead (s.pc + 2) s).1] = .ok (.ldaImm 0x10, [0]) := rfl

/-- StepRunsDecodedInstruction: a masked IRQ sampled by the step itself still meets the hypotheses. -/
theorem witness_StepRunsDecodedInstruction_masked :
    let s := { start with irqInput := [true] }
    s.fault = none ∧ (sampleIrq s).pending = some .irq ∧ serviceable (sampleIrq s).pending s.p.i = none := by decide

/-- RecordedFaultStopsTheMachine. -/
theorem witness_RecordedFaultStopsTheMachine :
    ({ start with fault := some (.illegalOpcode 0x02 0x0200) } : State).fault =
      some (.illegalOpcode 0x02 0x0200) := by decide

/-- InterruptsAreServiced: an NMI with I set, an IRQ with I clear, and an IRQ that the step itself samples. -/
theorem witness_InterruptsAreServiced :
    let s := { start with pending := some .nmi }
    let u := { withP 0x20 start with pending := some .irq }
    let v := { withP 0x20 start with irqInput := [true] }
    s.fault = none ∧ (sampleIrq s).pending = some .nmi ∧ s.ram.wf = true ∧ (Interrupt.nmi = .irq → s.p.i = false) ∧
    u.fault = none ∧ (sampleIrq u).pending = some .irq ∧ u.ram.wf = true ∧ u.p.i = false ∧
    v.fault = none ∧ v.pending = none ∧ (sampleIrq v).pending = some .irq ∧ v.ram.wf = true ∧ v.p.i = false := by decide

/-- MaskedRequestsFollowPolicy: a masked request under each policy; an empty and a filled slot. -/
theorem witness_MaskedRequestsFollowPolicy :
    let s := { start with pending := some .irq }
    let u := { s with cfg := { vectorConfig with irqMaskedPolicy := .drop } }
    s.p.i = true ∧ s.pending = some .irq ∧ s.cfg.irqMaskedPolicy = .retain ∧
    u.p.i = true ∧ u.pending = some .irq ∧ u.cfg.irqMaskedPolicy = .drop ∧ start.pending = none := by decide

/-- The PPU window's register addresses that the register statements take: the ends of the window where they are one. -/
theorem witness_selectsPpu :
    selectsPpu 0x2000 0 ∧ selectsPpu 0x2001 1 ∧ selectsPpu 0x3FFA 2 ∧ selectsPpu 0x200B 3 ∧ selectsPpu 0x2004 4 ∧
    selectsPpu 0x2005 5 ∧ selectsPpu 0x3FFE 6 ∧ selectsPpu 0x3FFF 7 := by
  unfold selectsPpu; decide

/-- StatusReadClearsVblank. -/
theorem witness_StatusReadClearsVblank : selectsPpu 0x2002 2 := by unfold selectsPpu; decide

/-- ControlWriteSetsFieldsAndArms: with a rising edge, and with the edge detector already high. -/
theorem witness_ControlWriteSetsFieldsAndArms :
    selectsPpu 0x3FF8 0 ∧
    let s := { start with ppu := { start.ppu with nmiOccurred := true } }
    (memWrite 0x3FF8 0x80 s).ppu.nmiDelay = 15 ∧
    (memWrite 0x3FF8 0x80 { s with ppu := { s.ppu with nmiPrevious := true } }).ppu.nmiDelay = 0 := by
  unfold selectsPpu; decide

/-- ScrollWritesSetT: the toggle clear, and set. -/
theorem witness_ScrollWritesSetT :
    selectsPpu 0x2005 5 ∧ selectsPpu 0x3FFD 5 ∧ start.ppu.w = false ∧
    (memWrite 0x2005 0 start).ppu.w = true := by
  unfold selectsPpu; decide

/-- AddressWritesSetTAndV: the toggle clear, and set. -/
theorem witness_AddressWritesSetTAndV :
    selectsPpu 0x2006 6 ∧ selectsPpu 0x200E 6 ∧ start.ppu.w = false ∧
    (memWrite 0x200E 0 start).ppu.w = true := by
  unfold selectsPpu; decide

/-- PlainPpuRegisterWrites: each clause. -/
theorem witness_PlainPpuRegisterWrites : selectsPpu 0x2001 1 ∧ selectsPpu 0x2002 2 ∧ selectsPpu 0x3FFB 3 := by
  unfold selectsPpu; decide

/-- OamDataAccess. -/
theorem witness_OamDataAccess : selectsPpu 0x2004 4 ∧ start.ppu.oam.wf = true := by unfold selectsPpu; decide

/-- DataReadIsBuffered: both clauses where they meet. -/
theorem witness_DataReadIsBuffered :
    selectsPpu 0x2007 7 ∧ (0x3EFF : BitVec 15).toNat % 0x4000 < 0x3F00 ∧
    0x3F00 ≤ (0x3F00 : BitVec 15).toNat % 0x4000 ∧ (0x4000 : BitVec 15).toNat % 0x4000 < 0x3F00 := by
  unfold selectsPpu; decide

/-- NametableMirroring: both ends of each clause's range, where the ranges meet, and an address above 0x4000 in each. -/
theorem witness_NametableMirroring :
    start.cart.mirror ≠ .fourScreen ∧
    [(0x0000 : Word), 0x1FFF, 0x4000].all (fun a => decide (a.toNat % 0x4000 < 0x2000)) = true ∧
    [(0x2000 : Word), 0x3EFF, 0x6000].all (fun a =>
      decide (0x2000 ≤ a.toNat % 0x4000 ∧ a.toNat % 0x4000 < 0x3F00)) = true ∧
    [(0x3F00 : Word), 0x3FFF, 0x7F10].all (fun a => decide (0x3F00 ≤ a.toNat % 0x4000)) = true := by decide

/-- DataWriteStoresAtOnce: canonical memories, and an address of each region at its boundary. -/
theorem witness_DataWriteStoresAtOnce :
    selectsPpu 0x2007 7 ∧ start.ppu.vram.wf = true ∧ start.ppu.palette.wf = true ∧ start.cart.chr.wf = true ∧
    ({ start.cart with chrPages := 0 } : Cartridge).chrPages = 0 ∧
    (0x1FFF : BitVec 15).toNat % 0x4000 < 0x2000 ∧ 0x2000 ≤ (0x2000 : BitVec 15).toNat % 0x4000 ∧
    (0x3EFF : BitVec 15).toNat % 0x4000 < 0x3F00 ∧ 0x3F00 ≤ (0x3F00 : BitVec 15).toNat % 0x4000 := by
  unfold selectsPpu; decide

/-- OamDmaCopiesPage: the pages at the boundaries of the plain ranges. -/
theorem witness_OamDmaCopiesPage :
    start.ppu.oam.wf = true ∧ ((0x1F : Byte).toNat < 0x20 ∨ 0x60 ≤ (0x1F : Byte).toNat) ∧
    ((0x60 : Byte).toNat < 0x20 ∨ 0x60 ≤ (0x60 : Byte).toNat) := by decide

/-- FramesHaveTheirDots: an even frame, and an odd one that skips. -/
theorem witness_FramesHaveTheirDots :
    start.ppu.dot = 0 ∧ start.ppu.scanline = 0 ∧ start.ppu.oddFrame = false ∧
    ({ start.ppu with oddFrame := true } : Ppu).oddFrame = true ∧ start.cfg.oddSkipRequiresRendering = false := by decide

/-- The start state with its PPU at a position and rendering on. -/
def rendering (scanline dot : Nat) : State :=
  { start with ppu := { start.ppu with
      scanline := scanline, dot := dot, mask := { start.ppu.mask with showBg := true } } }

/-- VblankAndSpriteFlagEvents: arriving at (261, 1) with a sprite flag set clears it; at a draw's dot it stays. -/
theorem witness_VblankAndSpriteFlagEvents :
    let s := { start with ppu := { start.ppu with scanline := 261, dot := 0, sprite0Hit := true } }
    let q := (ppuStep s).ppu
    let u := { rendering 0 0 with ppu := { (rendering 0 0).ppu with sprite0Hit := true } }
    q.scanline = 261 ∧ q.dot = 1 ∧ q.sprite0Hit ≠ s.ppu.sprite0Hit ∧
    u.ppu.sprite0Hit = true ∧ (ppuStep u).ppu.scanline = 0 ∧ (ppuStep u).ppu.dot = 1 := by decide

/-- VblankAndSpriteFlagEvents: the three cases of the delay counter: a rising edge at (241, 1) arms it; an edge detector already
high, or another dot, lets it count. -/
theorem witness_VblankAndSpriteFlagEvents_arming :
    let p := { start.ppu with
      scanline := 241, dot := 0, nmiDelay := 7, ctrl := { start.ppu.ctrl with nmiOutput := true } }
    let after (p : Ppu) : Ppu := (ppuStep { start with ppu := p }).ppu
    ((after p).nmiDelay = 15 ∧ (after p).nmiPrevious = true) ∧
    (after { p with nmiPrevious := true }).nmiDelay = 6 ∧
    ((after { p with dot := 1 }).nmiDelay = 6 ∧ (after { p with dot := 1 }).nmiPrevious = false) := by decide

/-- NmiDeliveredAfterDelay: the first and the last position of the count (across every line to (261, 1)), with the condition held
and with `vblank` read away; and NMI output off. -/
theorem witness_NmiDeliveredAfterDelay :
    let first := { start.ppu with
      scanline := 241, dot := 1, nmiDelay := 6820, nmiOccurred := true, ctrl := { start.ppu.ctrl with nmiOutput := true } }
    let last := { first with scanline := 260, dot := 327, nmiDelay := 15 }
    let inWindow (p : Ppu) : Prop := p.dot ≤ 340 ∧ 341 * 241 + 1 ≤ 341 * p.scanline + p.dot ∧
      341 * p.scanline + p.dot + p.nmiDelay = 341 * 261 + 1 ∧ 0 < p.nmiDelay
    inWindow first ∧ inWindow last ∧ inWindow { last with nmiOccurred := false } ∧
    (last.ctrl.nmiOutput = true ∧ last.nmiOccurred = true) ∧ start.ppu.ctrl.nmiOutput = false := by
  dsimp only; decide

/-- NoRenderingKeepsScroll. -/
theorem witness_NoRenderingKeepsScroll : start.ppu.mask.showBg = false ∧ start.ppu.mask.showSprites = false := by
  decide

/-- ScrollPropagation: each clause's dots at their bounds, the dots of the four fetches, and dots with no event. -/
theorem witness_ScrollPropagation :
    (∀ dot ∈ [8, 248, 328, 336, 256, 257, 1, 3, 5, 255, 321, 335, 258, 320, 337],
      ((rendering 239 (dot - 1)).ppu.mask.showBg || false) = true ∧
      (ppuStep (rendering 239 (dot - 1))).ppu.scanline = 239 ∧ (ppuStep (rendering 239 (dot - 1))).ppu.dot = dot) ∧
    (∀ dot ∈ [280, 304, 279, 305], (ppuStep (rendering 261 (dot - 1))).ppu.scanline = 261 ∧
      (ppuStep (rendering 261 (dot - 1))).ppu.dot = dot) ∧
    ((ppuStep (rendering 240 7)).ppu.scanline = 240 ∧ (ppuStep (rendering 240 7)).ppu.dot = 8) := by decide

/-- OnlyListedInstructionsWriteFlags: an instruction that answers and changes a flag. -/
theorem witness_OnlyListedInstructionsWriteFlags : ∃ t, exec .sec start = .next t ∧ t.p.c ≠ start.p.c :=
  ⟨_, rfl, by decide⟩

/-- StepKeepsCartridgeRom: a step that answers, with character ROM. -/
theorem witness_StepKeepsCartridgeRom :
    (∃ t, step (withCode [0xEA] start) = .next t) ∧ start.cart.chrPages ≠ 0 := ⟨⟨_, rfl⟩, by decide⟩

/-- StepKeepsInvariant: a state with the invariant whose step answers. -/
theorem witness_StepKeepsInvariant :
    (withCode [0xEA] start).Inv ∧ ∃ t, step (withCode [0xEA] start) = .next t := by
  refine ⟨⟨by decide, by decide, ?_, ?_, ?_, ?_⟩, _, rfl⟩
  · unfold Ppu.countersInRange; decide
  · unfold Ppu.parityAgrees; decide
  · unfold State.nmiConsistent; decide
  · unfold State.parametersInRange; decide

/-- A record of one program page whose last four bytes hold the reset vector 0x8000, with character RAM. -/
def vectorRecord : CartridgeRecord :=
  { CartridgeRecord.blank with
    characterRomPages := 0, programRom := List.replicate 0x3FFC 0xEA ++ [0x00, 0x80, 0x34, 0x12] }

/-- ResetMeetsInvariant: a canonical draw, legal parameters, a record of each kind of character memory, and a record of each kind
that is rejected. -/
theorem witness_ResetMeetsInvariant :
    PowerOnDraw.named.memoriesOk = true ∧ 1 ≤ vectorConfig.nmiDelay ∧ 1 ≤ vectorConfig.frameCycles ∧
    vectorRecord.mapperType = .baseline ∧ 1 ≤ vectorRecord.programRomPages ∧ vectorRecord.characterRomPages = 0 ∧
    CartridgeRecord.blank.characterRomPages ≠ 0 ∧
    ({ CartridgeRecord.blank with mapperType := .variant 1 } : CartridgeRecord).mapperType = .variant 1 ∧
    ({ CartridgeRecord.blank with programRomPages := 0 } : CartridgeRecord).programRomPages = 0 := by
  refine ⟨by decide, by decide, by decide, rfl, Nat.le_refl 1, rfl, by decide, rfl, rfl⟩

/-- R193's example: one page with 0x00 and 0x80 at 0x3FFC and 0x3FFD gives PC = 0x8000, SP = 0xFC. -/
theorem test_launch_loads_reset_vector :
    ∃ t, launch vectorConfig PowerOnDraw.named vectorRecord = .next t ∧ t.pc = 0x8000 ∧ t.sp = 0xFC := by
  refine ⟨_, launch_accepted rfl _ _, ?_⟩
  rw [reset_constructed]
  refine ⟨?_, rfl⟩
  rw [constructed_mapperRead _ _ _ (by decide), constructed_mapperRead _ _ _ (by decide)]
  simp [-List.reduceReplicate, vectorRecord, CartridgeRecord.blank, wordOf, List.getD_eq_getElem?_getD]

/-- K11: a record of another mapper is refused before the run, whatever the host would do. -/
theorem test_other_mapper_refused :
    hostRun vectorConfig PowerOnDraw.named { CartridgeRecord.blank with mapperType := .variant 1 } [.executeCycle] =
      .refused (.unsupportedMapper 1) := rfl

/-- R206: a byte stored at 0x6001 is the second of the buffer that the host reads. -/
theorem test_host_reads_mapper_ram :
    (hostView (withBytes [(0x6001, 0x5A)] start)).mapperRam.getD 1 0 = 0x5A := by
  rw [hostView_mapperRam _ (by decide)]
  decide

/-- The registers of a run's observation, if it has one. -/
def observed (o : RunOutcome) : Option (List Nat) :=
  match o with
  | .ended s => some (regs s)
  | _ => none

/-- The start state with a program of three NOPs and another END_PC. -/
def nopsTo (endPc : Word) : State :=
  withCode [0xEA, 0xEA, 0xEA] { start with cfg := { vectorConfig with endPc := endPc } }

/-- R207: a run given three steps ends at the first boundary with PC = END_PC, after one; and not at a boundary with a request
pending. -/
theorem test_run_ends_at_first_boundary :
    observed (runFor 3 (nopsTo 0x0201)) = some [0, 0, 0, 0xFD, 0x201, 0x24, 2] ∧
    observed (runFor 0 { nopsTo 0x0200 with pending := some .nmi }) = none := by decide

/-- R207: a run that faults has no observation, and one that has not reached END_PC is still running. -/
theorem test_run_faults_or_runs_on :
    runFor 2 (withCode [0x02] { start with cfg := { vectorConfig with endPc := 0x0201 } }) =
      .faulted (.illegalOpcode 0x02 0x0200) ∧
    ∃ t, runFor 1 (nopsTo 0x0300) = .running t := ⟨by decide, _, rfl⟩

/-- FrameStepReachesQuota: a frame of one cycle answers after one instruction. -/
theorem witness_FrameStepReachesQuota : ∃ t, frameStep start = .next t := by
  obtain ⟨t, ht⟩ := step_next (s := start) rfl
  refine ⟨t, ?_⟩
  show (if 0 < 0 + 1 ∧ start.fault = none then
    match step start with
    | .next t => frameLoop (0 + 1) 0 t
    | .fault f => .fault f
    | .refused f => .refused f else .next start) = Host.Outcome.next t
  rw [if_pos ⟨by decide, rfl⟩, ht]
  rfl

end Sys2Proof.Tests
end

section
/-! The invariant of the machine: what it says beside the memories is kept by every bus access and every dot, so every step keeps
all of it. -/

namespace Sys2Proof.Machine

/-- The edge detector's half of `State.nmiConsistent`, for a PPU and the value of `NMI_DELAY` (R22, R172). -/
def Ppu.EdgeOk (delay : Nat) (p : Ppu) : Prop :=
  p.nmiPrevious = (p.ctrl.nmiOutput && p.nmiOccurred) ∧ p.nmiDelay ≤ delay

/-- What the invariant says of the PPU beside its memories: the counters, the parity and the edge detector (R22, R23, R30). -/
def Ppu.TimingOk (delay : Nat) (p : Ppu) : Prop :=
  p.countersInRange ∧ p.parityAgrees ∧ p.EdgeOk delay

/-- What the invariant says beside the memories. -/
def State.TimingOk (s : State) : Prop := s.ppu.TimingOk s.cfg.nmiDelay ∧ s.parametersInRange

theorem inv_iff (s : State) : s.Inv ↔ s.MemoriesOk ∧ s.TimingOk := by
  constructor
  · rintro ⟨hwf, hrange, hcounters, hparity, hnmi, hparameters⟩
    exact ⟨⟨hwf, hrange⟩, ⟨hcounters, hparity, hnmi⟩, hparameters⟩
  · rintro ⟨⟨hwf, hrange⟩, ⟨hcounters, hparity, hnmi⟩, hparameters⟩
    exact ⟨hwf, hrange, hcounters, hparity, hnmi, hparameters⟩

/-! ### The edge detector -/

/-- Running the edge detector makes its memory equal to its input, and arms no more than `NMI_DELAY` (R172). -/
theorem nmiChange_edgeOk {delay : Nat} {p : Ppu} (h : p.nmiDelay ≤ delay) :
    (p.nmiChange delay).EdgeOk delay := by
  refine ⟨rfl, ?_⟩
  unfold Ppu.nmiChange
  dsimp only
  split
  · exact Nat.le_refl delay
  · exact h

theorem Ppu.TimingOk.nmiChange {delay : Nat} {p : Ppu} (hcounters : p.countersInRange)
    (hparity : p.parityAgrees) (hdelay : p.nmiDelay ≤ delay) : (p.nmiChange delay).TimingOk delay :=
  ⟨hcounters, hparity, nmiChange_edgeOk hdelay⟩

/-! ### Bus accesses

Only a PPUSTATUS read and a PPUCTRL write touch the edge detector's input, and both run the detector; nothing on the bus touches the
counters or the parity. Where an access leaves every field that `State.TimingOk` looks at alone, the hypothesis itself is the proof. -/

/-- Only the PPU, the cartridge and the parameters matter. -/
theorem State.TimingOk.outside {s t : State} (h : s.TimingOk) (e : s.SameOutside t) : t.TimingOk := by
  obtain ⟨-, hppu, hcart, hcfg⟩ := e
  unfold State.TimingOk State.parametersInRange
  rw [hppu, hcart, hcfg]
  exact h

theorem ppuRegRead_timingOk (r : PpuReg) {s : State} (h : s.TimingOk) : (ppuRegRead r s).2.TimingOk := by
  cases r
  case status =>
    obtain ⟨⟨hcounters, hparity, -, hdelay⟩, hparameters⟩ := h
    exact ⟨.nmiChange (p := { s.ppu with nmiOccurred := false }) hcounters hparity hdelay, hparameters⟩
  all_goals exact h

theorem memRead_timingOk (a : Word) {s : State} (h : s.TimingOk) : (memRead a s).2.TimingOk := by
  unfold memRead
  dsimp only
  cases (cpuTranslate a).subsystem
  case ppuReg => exact ppuRegRead_timingOk _ h
  all_goals exact h

theorem ppuWrite_timingOk (a : Word) (d : Byte) {s : State} (h : s.TimingOk) : (ppuWrite a d s).TimingOk := by
  unfold ppuWrite
  dsimp only
  cases (ppuTranslate s.cart.mirror a).subsystem
  case chr =>
    dsimp only
    unfold chrWrite
    split <;> exact h
  all_goals exact h

theorem ppuRegWrite_timingOk (r : PpuReg) (d : Byte) {s : State} (h : s.TimingOk) :
    (ppuRegWrite r d s).TimingOk := by
  cases r
  case ctrl =>
    obtain ⟨⟨hcounters, hparity, -, hdelay⟩, hparameters⟩ := h
    exact ⟨.nmiChange hcounters hparity hdelay, hparameters⟩
  case scroll =>
    dsimp only [ppuRegWrite, Ppu.writeScroll]
    split <;> exact h
  case addr =>
    dsimp only [ppuRegWrite, Ppu.writeAddr]
    split <;> exact h
  case data =>
    have hlatch : (s.setPpu { s.ppu with regLatch := d }).TimingOk := h
    exact ppuWrite_timingOk (Ppu.dataAddress { s.ppu with regLatch := d }) d hlatch
  all_goals exact h

theorem dmaCopy_timingOk (d : Byte) (n i : Nat) {s : State} (h : s.TimingOk) :
    (dmaCopy d n i s).TimingOk := by
  induction n generalizing i s with
  | zero => exact h
  | succ n ih =>
    exact ih (i + 1) (memRead_timingOk (wordOf d (BitVec.ofNat 8 i)) h)

theorem mapperWrite_prgPages (a : Word) (d : Byte) (c : Cartridge) :
    (mapperWrite a d c).prgPages = c.prgPages := by
  unfold mapperWrite
  split <;> rfl

theorem memWrite_timingOk (a : Word) (d : Byte) {s : State} (h : s.TimingOk) : (memWrite a d s).TimingOk := by
  unfold memWrite
  dsimp only
  cases (cpuTranslate a).subsystem
  case ppuReg => exact ppuRegWrite_timingOk _ d h
  case oamDma => exact (dmaCopy_timingOk d 256 0 h).outside ⟨rfl, rfl, rfl, rfl⟩
  case mapper =>
    obtain ⟨htiming, hdelay, hframe, hpages⟩ := h
    exact ⟨htiming, hdelay, hframe, (mapperWrite_prgPages _ d s.cart).symm ▸ hpages⟩
  all_goals exact h

theorem timingOk_keptByBus : KeptByBus State.TimingOk where
  outside e h := h.outside e
  read a _ h := memRead_timingOk a h
  write a d _ h := memWrite_timingOk a d h

/-! ### Dots -/

/-- The advance wraps the dot after 340 and the line after 261 (R175). -/
theorem advance_countersInRange (skip : Bool) {p : Ppu} (h : p.countersInRange) :
    (p.advance skip).countersInRange := by
  obtain ⟨hdot, hline⟩ := h
  have hwrap : p.wrapFrame.countersInRange := ⟨Nat.zero_le _, Nat.zero_le _⟩
  unfold Ppu.advance
  split
  · exact hwrap
  · split
    · split
      · exact hwrap
      · exact ⟨Nat.zero_le _, show p.scanline + 1 ≤ 261 by omega⟩
    · exact ⟨show p.dot + 1 ≤ 340 by omega, hline⟩

theorem wrapFrame_parityAgrees {p : Ppu} (h : p.parityAgrees) : p.wrapFrame.parityAgrees := by
  show (!p.oddFrame) = decide ((p.frame + 1) % 2 = 1)
  rw [show p.oddFrame = decide (p.frame % 2 = 1) from h, ← decide_not]
  exact decide_eq_decide.mpr (by omega)

/-- The advance changes the frame counter and the parity together (R175). -/
theorem advance_parityAgrees (skip : Bool) {p : Ppu} (h : p.parityAgrees) :
    (p.advance skip).parityAgrees := by
  unfold Ppu.advance
  split
  · exact wrapFrame_parityAgrees h
  · split
    · split
      · exact wrapFrame_parityAgrees h
      · exact h
    · exact h

/-- The countdown lowers the delay and the advance leaves the edge detector alone (R173, R175). -/
theorem arrive_edgeOk (skip : Bool) {delay : Nat} {p : Ppu} (h : p.EdgeOk delay) :
    (p.arrive skip).EdgeOk delay := by
  obtain ⟨hprevious, hdelay⟩ := h
  unfold Ppu.arrive
  rw [advance_frame]
  exact ⟨hprevious, Nat.le_trans (Nat.sub_le _ 1) hdelay⟩

/-- A vertical-blank event runs the edge detector whenever it sets or clears the flag (R176). -/
theorem vblankEvents_edgeOk {delay : Nat} {p : Ppu} (h : p.EdgeOk delay) :
    (p.vblankEvents delay).EdgeOk delay := by
  have hchange (occurred : Bool) :
      (Ppu.nmiChange delay { p with nmiOccurred := occurred }).EdgeOk delay := nmiChange_edgeOk h.2
  unfold Ppu.vblankEvents
  split
  · exact hchange true
  · split
    · exact hchange false
    · exact h

theorem ppuStep_edgeOk {s : State} (h : s.ppu.EdgeOk s.cfg.nmiDelay) :
    (ppuStep s).ppu.EdgeOk s.cfg.nmiDelay := by
  obtain ⟨hoccurred, hprevious, hdelay⟩ := ppuStep_vblank s
  have hctrl : (afterVblank s).ppu.ctrl = s.ppu.ctrl := by
    rw [afterVblank, vblankEvents_frame, Ppu.arrive, advance_frame]
  have hafter : (afterVblank s).ppu.EdgeOk s.cfg.nmiDelay := vblankEvents_edgeOk (arrive_edgeOk _ h)
  unfold Ppu.EdgeOk at hafter ⊢
  rw [hoccurred, hprevious, hdelay, ppuStep_ctrl, ← hctrl]
  exact hafter

theorem ppuStep_timingOk {s : State} (h : s.TimingOk) : (ppuStep s).TimingOk := by
  obtain ⟨⟨hcounters, hparity, hedge⟩, hparameters⟩ := h
  obtain ⟨hdot, hline, hframe, hodd⟩ := ppuStep_counters s
  have hcounters' : (ppuStep s).ppu.countersInRange := by
    unfold Ppu.countersInRange
    rw [hdot, hline]
    exact advance_countersInRange _ hcounters
  have hparity' : (ppuStep s).ppu.parityAgrees := by
    unfold Ppu.parityAgrees
    rw [hframe, hodd]
    exact advance_parityAgrees _ hparity
  unfold State.TimingOk State.parametersInRange
  rw [ppuStep_cfg, ppuStep_cart]
  exact ⟨⟨hcounters', hparity', ppuStep_edgeOk hedge⟩, hparameters⟩

/-! ### Steps -/

/-- Every step keeps the counters, the parity, the edge detector's memory and the parameters within what the invariant says. -/
theorem step_timingOk {s t : State} (h : s.TimingOk) (e : step s = .next t) : t.TimingOk :=
  timingOk_keptByBus.step (fun _ => ppuStep_timingOk) h e

/-- Settles O57: the memories' part is `step_memoriesOk`; the rest is kept by every bus access and every dot, so by every step. -/
theorem stepKeepsInvariant : Obligations.StepKeepsInvariant := by
  unfold Obligations.StepKeepsInvariant
  intro s t h e
  obtain ⟨hmemories, htiming⟩ := (inv_iff s).mp h
  exact (inv_iff t).mpr ⟨step_memoriesOk hmemories e, step_timingOk htiming e⟩

end Sys2Proof.Machine
end

section
/-! What no instruction and no dot can change of a cartridge: its program ROM, its page counts, its mirroring mode, and its
character memory when that is ROM; and the parameters. -/

namespace Sys2Proof.Machine

/-- `d` is the cartridge `c` with nothing written but its RAMs (R28, R39, R40). -/
def Cartridge.SameRom (c d : Cartridge) : Prop :=
  d.prg = c.prg ∧ d.prgPages = c.prgPages ∧ d.chrPages = c.chrPages ∧ d.mirror = c.mirror ∧
  (c.chrPages ≠ 0 → d.chr = c.chr)

theorem Cartridge.SameRom.refl (c : Cartridge) : c.SameRom c := ⟨rfl, rfl, rfl, rfl, fun _ => rfl⟩

theorem Cartridge.SameRom.trans {c d e : Cartridge} (h : c.SameRom d) (h' : d.SameRom e) : c.SameRom e := by
  obtain ⟨hprg, hprgPages, hchrPages, hmirror, hchr⟩ := h
  obtain ⟨hprg', hprgPages', hchrPages', hmirror', hchr'⟩ := h'
  exact ⟨hprg'.trans hprg, hprgPages'.trans hprgPages, hchrPages'.trans hchrPages, hmirror'.trans hmirror,
    fun hrom => (hchr' (hchrPages.symm ▸ hrom)).trans (hchr hrom)⟩

/-- A mapper write reaches PRG-RAM only (R39). -/
theorem mapperWrite_sameRom (a : Word) (d : Byte) (c : Cartridge) : c.SameRom (mapperWrite a d c) := by
  unfold mapperWrite
  split <;> exact .refl c

/-- A write to character memory reaches it only when the cartridge has no character-ROM page (R40). -/
theorem chrWrite_sameRom (o : Nat) (d : Byte) (c : Cartridge) : c.SameRom (chrWrite o d c) := by
  unfold chrWrite
  split
  · next hram => exact ⟨rfl, rfl, rfl, rfl, fun hrom => absurd hram hrom⟩
  · exact .refl c

/-- A write in the PPU's address space reaches the cartridge only through its character memory (R43, R47). -/
theorem ppuWrite_sameRom (a : Word) (d : Byte) (s : State) : s.cart.SameRom (ppuWrite a d s).cart := by
  unfold ppuWrite
  dsimp only
  cases (ppuTranslate s.cart.mirror a).subsystem
  case chr => exact chrWrite_sameRom _ d s.cart
  all_goals exact .refl s.cart

/-- PPUDATA is the only PPU register that reaches the cartridge (R170). -/
theorem ppuRegWrite_sameRom (r : PpuReg) (d : Byte) (s : State) : s.cart.SameRom (ppuRegWrite r d s).cart := by
  cases r
  case data => exact ppuWrite_sameRom _ d (s.setPpu { s.ppu with regLatch := d })
  all_goals exact .refl s.cart

/-- A bus write reaches the cartridge through the PPU's registers and the mapper only (R35, R184). -/
theorem memWrite_sameRom (a : Word) (d : Byte) (s : State) : s.cart.SameRom (memWrite a d s).cart := by
  unfold memWrite
  dsimp only
  cases (cpuTranslate a).subsystem
  case ppuReg => exact ppuRegWrite_sameRom _ d s
  case oamDma =>
    dsimp only [oamDma]
    rw [State.addCycles_cart, dmaCopy_frame]
    exact .refl s.cart
  case mapper => exact mapperWrite_sameRom _ d s.cart
  all_goals exact .refl s.cart

/-- `t` has the cartridge of `s`, with nothing written but its RAMs, and its parameters. -/
def State.KeepsRom (s t : State) : Prop := s.cart.SameRom t.cart ∧ t.cfg = s.cfg

theorem keepsRom_keptByBus (s : State) : KeptByBus s.KeepsRom where
  outside e h := by
    obtain ⟨-, -, hcart, hcfg⟩ := e
    exact ⟨hcart.symm ▸ h.1, hcfg.trans h.2⟩
  read a t h := by
    unfold State.KeepsRom
    rwa [memRead_cart, memRead_cfg]
  write a d t h := by
    refine ⟨h.1.trans (memWrite_sameRom a d t), ?_⟩
    rw [(memWrite_frame a d t).1]
    exact h.2

theorem ppuStep_keepsRom {s t : State} (h : s.KeepsRom t) : s.KeepsRom (ppuStep t) := by
  unfold State.KeepsRom
  rwa [ppuStep_cart, ppuStep_cfg]

/-- Settles O56: every step keeps what the bus and the dots keep, and a state keeps its own cartridge and parameters. -/
theorem stepKeepsCartridgeRom : Obligations.StepKeepsCartridgeRom := by
  unfold Obligations.StepKeepsCartridgeRom
  intro s t e
  obtain ⟨⟨hprg, hprgPages, hchrPages, hmirror, hchr⟩, hcfg⟩ :=
    (keepsRom_keptByBus s).step (fun _ => ppuStep_keepsRom) ⟨.refl s.cart, rfl⟩ e
  exact ⟨hprg, hprgPages, hchrPages, hmirror, hcfg, hchr⟩

end Sys2Proof.Machine
end

section
/-! The status byte (R13), and which flags each mnemonic can change (R14). The operand access, the stack and the bus never touch
the flags, so a handler's flags are the ones that its own computation gives. -/

namespace Sys2Proof.Machine

/-! ### The status byte -/

theorem toByte_toNat (p : Flags) : p.toByte.toNat = statusNat p := by
  obtain ⟨c, z, i, d, b, u, v, n⟩ := p
  revert c z i d b u v n
  decide

/-- Every byte is the status byte of the flags read from it: R13's `toByte(fromByte(b)) = b`. -/
theorem toByte_fromByte (b : Byte) : (Flags.fromByte b).toByte = b := by
  revert b
  decide +kernel

/-- Settles O18: the bit layout and the two round trips. -/
theorem statusByteRoundTrip : Obligations.StatusByteRoundTrip := by
  unfold Obligations.StatusByteRoundTrip
  exact ⟨fun p => ⟨toByte_toNat p, fromByte_toByte p⟩, toByte_fromByte⟩

/-! ### What leaves the flags alone -/

@[simp] theorem loadOperand_p (o : Operand) (addr : Word) (s : State) : (loadOperand o addr s).2.p = s.p := by
  unfold loadOperand
  split
  · rfl
  · rfl
  · exact memRead_p addr s

@[simp] theorem push_p (d : Byte) (s : State) : (push d s).p = s.p := by rw [push_eq]

@[simp] theorem push16_p (w : Word) (s : State) : (push16 w s).p = s.p := by rw [push16_eq]

@[simp] theorem pop_p (s : State) : (pop s).2.p = s.p := by rw [pop_eq]

@[simp] theorem pop16_p (s : State) : (pop16 s).2.p = s.p := by rw [pop16_eq]

@[simp] theorem memReadPair_p (low high : Word) (s : State) : (memReadPair low high s).2.p = s.p := by
  simp only [memReadPair, memRead_p]

@[simp] theorem resolve_p (o : Operand) (s : State) : (resolve o s).st.p = s.p := by
  cases o
  case izx | izy | ind => exact memReadPair_p _ _ s
  all_goals rfl

@[simp] theorem startInstr_p (op : Byte) (o : Operand) (s : State) : (startInstr op o s).st.p = s.p :=
  resolve_p o s

@[simp] theorem branch_p (cond : Flags → Bool) (o : Operand) (addr : Word) (s : State) :
    (branch cond o addr s).p = s.p := by
  unfold branch
  split <;> rfl

@[simp] theorem executeIllegal_p (op : Byte) (addr : Word) (s : State) : (executeIllegal op addr s).p = s.p := by
  unfold executeIllegal
  split <;> rfl

/-- Taking an exception sets I and leaves every other flag (R136, R153). -/
theorem takeException_p (ret : Word) (status : Byte) (vector : Word) (s : State) :
    (takeException ret status vector s).p = { s.p with i := true } := by
  simp [takeException, memRead16]

/-! ### The writers of each flag -/

/-- The flags `q` differ from `p` only where R14 lists the mnemonic as a writer; ADC and SBC count as writers of Z and N only
when D is clear. -/
def Flags.ChangedBy (m : Mnemonic) (p q : Flags) : Prop :=
  let binary : Prop := m ∈ [.ADC, .SBC] → p.d = false
  (q.c = p.c ∨ m ∈ carryWriters) ∧
  (q.z = p.z ∨ m ∈ zeroWriters ∧ binary) ∧
  (q.i = p.i ∨ m ∈ [.SEI, .CLI, .PLP, .RTI, .BRK]) ∧
  (q.d = p.d ∨ m ∈ [.SED, .CLD, .PLP, .RTI]) ∧
  (q.b = p.b ∨ m ∈ [.PLP, .RTI]) ∧
  (q.u = p.u ∨ m ∈ [.PLP, .RTI]) ∧
  (q.v = p.v ∨ m ∈ overflowWriters) ∧
  (q.n = p.n ∨ m ∈ zeroWriters ∧ binary)

section
variable {m : Mnemonic} {p : Flags}

theorem Flags.ChangedBy.of_eq {q : Flags} (h : q = p) : p.ChangedBy m q := by
  subst h
  exact ⟨.inl rfl, .inl rfl, .inl rfl, .inl rfl, .inl rfl, .inl rfl, .inl rfl, .inl rfl⟩

theorem Flags.ChangedBy.zn {z n : Bool} (hz : m ∈ zeroWriters) (hm : m ∉ [.ADC, .SBC]) :
    p.ChangedBy m { p with z := z, n := n } :=
  ⟨.inl rfl, .inr ⟨hz, fun h => absurd h hm⟩, .inl rfl, .inl rfl, .inl rfl, .inl rfl, .inl rfl,
    .inr ⟨hz, fun h => absurd h hm⟩⟩

theorem Flags.ChangedBy.czn {c z n : Bool} (hc : m ∈ carryWriters) (hz : m ∈ zeroWriters)
    (hm : m ∉ [.ADC, .SBC]) : p.ChangedBy m { p with c := c, z := z, n := n } :=
  ⟨.inr hc, (zn hz hm (z := z) (n := n)).2⟩

theorem Flags.ChangedBy.vzn {v z n : Bool} (hv : m ∈ overflowWriters) (hz : m ∈ zeroWriters)
    (hm : m ∉ [.ADC, .SBC]) : p.ChangedBy m { p with v := v, z := z, n := n } :=
  ⟨.inl rfl, .inr ⟨hz, fun h => absurd h hm⟩, .inl rfl, .inl rfl, .inl rfl, .inl rfl, .inr hv,
    .inr ⟨hz, fun h => absurd h hm⟩⟩

theorem Flags.ChangedBy.c {c : Bool} (h : m ∈ carryWriters) : p.ChangedBy m { p with c := c } :=
  ⟨.inr h, .inl rfl, .inl rfl, .inl rfl, .inl rfl, .inl rfl, .inl rfl, .inl rfl⟩

theorem Flags.ChangedBy.i {i : Bool} (h : m ∈ [.SEI, .CLI, .PLP, .RTI, .BRK]) :
    p.ChangedBy m { p with i := i } :=
  ⟨.inl rfl, .inl rfl, .inr h, .inl rfl, .inl rfl, .inl rfl, .inl rfl, .inl rfl⟩

theorem Flags.ChangedBy.d {d : Bool} (h : m ∈ [.SED, .CLD, .PLP, .RTI]) : p.ChangedBy m { p with d := d } :=
  ⟨.inl rfl, .inl rfl, .inl rfl, .inr h, .inl rfl, .inl rfl, .inl rfl, .inl rfl⟩

theorem Flags.ChangedBy.v {v : Bool} (h : m ∈ overflowWriters) : p.ChangedBy m { p with v := v } :=
  ⟨.inl rfl, .inl rfl, .inl rfl, .inl rfl, .inl rfl, .inl rfl, .inr h, .inl rfl⟩

/-- PLP and RTI may write all eight flags. -/
theorem Flags.ChangedBy.all {q : Flags} (h : m = .PLP ∨ m = .RTI) : p.ChangedBy m q := by
  unfold Flags.ChangedBy
  rcases h with rfl | rfl <;> simp [carryWriters, zeroWriters, overflowWriters]

/-- ADC and SBC write C and V, and Z and N only when D is clear (R105, R106, D36). -/
theorem Flags.ChangedBy.cvznUnlessDecimal {c v : Bool} {r : Byte} (h : m = .ADC ∨ m = .SBC) :
    p.ChangedBy m (Flags.setZNUnlessDecimal r { p with c := c, v := v }) := by
  have hc : m ∈ carryWriters := by rcases h with rfl | rfl <;> decide
  have hv : m ∈ overflowWriters := by rcases h with rfl | rfl <;> decide
  have hz : m ∈ zeroWriters := by rcases h with rfl | rfl <;> decide
  unfold Flags.setZNUnlessDecimal
  cases hd : p.d with
  | true => exact ⟨.inr hc, .inl rfl, .inl rfl, .inl hd.symm, .inl rfl, .inl rfl, .inr hv, .inl rfl⟩
  | false =>
    exact ⟨.inr hc, .inr ⟨hz, fun _ => hd⟩, .inl rfl, .inl hd.symm, .inl rfl, .inl rfl, .inr hv,
      .inr ⟨hz, fun _ => hd⟩⟩

end

/-! ### Handlers -/

/-- A handler changes only the flags that R14 lists its mnemonic for. -/
theorem handler_changedBy (m : Mnemonic) (o : Operand) (addr : Word) (s : State) :
    s.p.ChangedBy m (handlerOf m o addr s).p := by
  cases m
  case LDA | LDX | LDY | AND | ORA | EOR | INC | DEC =>
    rw [← loadOperand_p o addr s]
    exact .zn (by decide) (by decide)
  case TAX | TAY | TXA | TYA | TSX | INX | INY | DEX | DEY => exact .zn (by decide) (by decide)
  case PLA =>
    rw [← pop_p s]
    exact .zn (by decide) (by decide)
  case CMP | CPX | CPY | ASL | LSR | ROL | ROR =>
    rw [← loadOperand_p o addr s]
    exact .czn (by decide) (by decide) (by decide)
  case BIT =>
    rw [← loadOperand_p o addr s]
    exact .vzn (by decide) (by decide) (by decide)
  case ADC | SBC =>
    rw [← loadOperand_p o addr s]
    exact .cvznUnlessDecimal (by decide)
  case CLC | SEC => exact .c (by decide)
  case CLI | SEI => exact .i (by decide)
  case CLD | SED => exact .d (by decide)
  case CLV => exact .v (by decide)
  case BRK =>
    rw [show (handlerOf .BRK o addr s).p = { s.p with i := true } from takeException_p _ _ _ s]
    exact .i (by decide)
  case PLP | RTI => exact .all (by decide)
  case STA | STX | STY => exact .of_eq (memWrite_p addr _ s)
  case PHA | PHP => exact .of_eq (push_p _ s)
  case JSR => exact .of_eq (push16_p _ s)
  case RTS => exact .of_eq (pop16_p s)
  case BCC | BCS | BEQ | BNE | BMI | BPL | BVC | BVS => exact .of_eq (branch_p _ o addr s)
  all_goals exact .of_eq rfl

/-- An illegal instruction changes no flag (R147). -/
theorem exec_illegal_p {i : Instr} {s t : State} (hi : i.isIllegal = true) (e : exec i s = .next t) :
    t.p = s.p := by
  rw [exec_illegal i s hi, illegal] at e
  cases e
  rw [executeIllegal_p, startInstr_p]

/-- A documented instruction changes only the flags that R14 lists its mnemonic for. -/
theorem exec_documented_changedBy {i : Instr} {s t : State} (hi : i.isIllegal = false)
    (e : exec i s = .next t) : s.p.ChangedBy i.mnemonic t.p := by
  rw [exec_documented i s hi, documented] at e
  cases e
  rw [← startInstr_p i.code.opcode i.operand s]
  exact handler_changedBy i.mnemonic i.operand _ _

/-- Settles O55: an illegal instruction changes no flag, a documented one only those of its handler. -/
theorem onlyListedInstructionsWriteFlags : Obligations.OnlyListedInstructionsWriteFlags := by
  unfold Obligations.OnlyListedInstructionsWriteFlags
  intro i s t e
  cases hi : i.isIllegal with
  | true =>
    rw [exec_illegal_p hi e]
    exact ⟨.inl rfl, .inl rfl, .inl rfl, .inl rfl, .inl rfl, .inl rfl, .inl rfl, .inl rfl⟩
  | false =>
    obtain ⟨hc, hz, hint, hd, hb, hu, hv, hn⟩ := exec_documented_changedBy hi e
    have written {l : List Mnemonic} (h : i.mnemonic ∈ l) : false = false ∧ i.mnemonic ∈ l := ⟨rfl, h⟩
    exact ⟨hc.imp_right written, hz.imp_right (And.imp_left written), hint.imp_right written,
      hd.imp_right written, hb.imp_right written, hu.imp_right written, hv.imp_right written,
      hn.imp_right (And.imp_left written)⟩

end Sys2Proof.Machine
end

section
/-! The stop of a faulted CPU (R17), and the console from its construction to its launch (R31, R192, R194). -/

namespace Sys2Proof.Machine

/-! ### A recorded fault -/

theorem step_of_fault {s : State} {r : FaultRecord} (h : s.fault = some r) : step s = .fault (.stuck r) := by
  unfold step
  rw [h]

/-- Settles O37: `step` looks at the recorded fault first. -/
theorem recordedFaultStopsTheMachine : Obligations.RecordedFaultStopsTheMachine := by
  unfold Obligations.RecordedFaultStopsTheMachine
  exact fun _ _ => step_of_fault

/-! ### Construction and launch -/

/-- Cutting a ROM's list at its size and reading 0 past its end is `imageByte`. -/
theorem getD_take_eq_imageByte (rom : List Byte) (size k : Nat) :
    (rom.take size).getD k Memory.unlisted = imageByte rom size k := by
  unfold imageByte
  rw [List.getD_eq_getElem?_getD, List.getElem?_take, List.getD_eq_getElem?_getD]
  split <;> rfl

theorem constructed_prg_read (cfg : Config) (draw : PowerOnDraw) (r : CartridgeRecord) (k : Nat) :
    (constructed cfg draw r).cart.prg.read k = imageByte r.programRom (r.programRomPages * 0x4000) k :=
  (cartridge_prg_read r draw k).trans (getD_take_eq_imageByte _ _ k)

/-- Without a character page the character memory is the drawn RAM (R40). -/
theorem constructed_chr_ram (cfg : Config) (draw : PowerOnDraw) {r : CartridgeRecord}
    (h : r.characterRomPages = 0) : (constructed cfg draw r).cart.chr = draw.chrRam := if_pos h

theorem constructed_chr_read (cfg : Config) (draw : PowerOnDraw) {r : CartridgeRecord}
    (h : r.characterRomPages ≠ 0) (k : Nat) :
    (constructed cfg draw r).cart.chr.read k =
      imageByte r.characterRom (r.characterRomPages * 0x2000) k := by
  rw [show (constructed cfg draw r).cart.chr = Memory.ofBytes 0 (r.characterRom.take (r.characterRomPages * 0x2000))
    from if_neg h, Memory.read_ofBytes, if_pos (Nat.zero_le k), Nat.sub_zero, getD_take_eq_imageByte]

/-- The reset vector's bytes lie in program ROM (R38), so the launch takes PC from the record. -/
theorem launched_eq (cfg : Config) (draw : PowerOnDraw) (r : CartridgeRecord) :
    consoleReset (constructed cfg draw r) = { constructed cfg draw r with
      sp := cfg.resetSp
      pc := imageByte r.programRom (r.programRomPages * 0x4000)
          ((0xFFFD - 0x8000) % (r.programRomPages * 0x4000)) ++
        imageByte r.programRom (r.programRomPages * 0x4000)
          ((0xFFFC - 0x8000) % (r.programRomPages * 0x4000)) } := by
  rw [reset_constructed, constructed_mapperRead cfg draw r (by decide),
    constructed_mapperRead cfg draw r (by decide), getD_take_eq_imageByte, getD_take_eq_imageByte]
  rfl

theorem constructed_memoriesOk (cfg : Config) {draw : PowerOnDraw} (r : CartridgeRecord)
    (h : draw.memoriesOk = true) : (constructed cfg draw r).MemoriesOk := by
  simp only [PowerOnDraw.memoriesOk, Bool.and_eq_true, and_assoc] at h
  obtain ⟨hram, hram', hvram, hvram', hpalette, hpalette', hoam, hoam', hprgRam, hprgRam', hchrRam⟩ := h
  rw [memoriesOk_iff]
  exact ⟨⟨hram, hram'⟩, cartridge_ok r hchrRam, ⟨hprgRam, hprgRam'⟩, ⟨hvram, hvram'⟩,
    ⟨hpalette, hpalette'⟩, hoam, hoam'⟩

/-- The PPU right after reset is in its timing invariant: every item is 0 (R31). -/
theorem afterReset_timingOk (delay : Nat) (vram palette oam : Memory) :
    (Ppu.afterReset vram palette oam).TimingOk delay :=
  ⟨⟨Nat.zero_le _, Nat.zero_le _⟩, rfl, rfl, Nat.zero_le _⟩

/-- A launch of legal parameters and canonical draws meets the invariant: it changes SP and PC of the construction, and the
invariant looks at neither. -/
theorem launched_inv {cfg : Config} {draw : PowerOnDraw} {r : CartridgeRecord} (hdraw : draw.memoriesOk = true)
    (hdelay : 1 ≤ cfg.nmiDelay) (hframe : 1 ≤ cfg.frameCycles) (hpages : 1 ≤ r.programRomPages) :
    (consoleReset (constructed cfg draw r)).Inv := by
  rw [reset_constructed, inv_iff]
  have hmemories := constructed_memoriesOk cfg r hdraw
  exact ⟨hmemories.congr rfl rfl rfl rfl rfl, afterReset_timingOk _ _ _ _, hdelay, hframe, hpages⟩

/-- The reset state is a launch, so it meets the invariant as every launch does. -/
theorem reset_inv : State.reset.Inv := by
  rw [← Host.Outcome.next.inj ((launch_accepted (r := CartridgeRecord.blank) rfl _ _).symm.trans launch_blank)]
  exact launched_inv rfl (Nat.succ_le_succ (Nat.zero_le _)) (Nat.succ_le_succ (Nat.zero_le _)) (Nat.le_refl 1)

theorem reset_pc : State.reset.pc = vectorAt 0xFFFC 0xFFFD State.reset := by
  unfold vectorAt
  rw [memRead_mapper (by decide), memRead_mapper (by decide)]
  rfl

/-- Settles O58: the rejected records, the construction and launch of the others, and the reset state. -/
theorem resetMeetsInvariant : Obligations.ResetMeetsInvariant := by
  unfold Obligations.ResetMeetsInvariant
  refine ⟨fun cfg draw r moves => ⟨fun id hmapper => ?variant, fun hmapper hpages => ?noPage,
    fun hmapper hpages => ?accepted⟩, launch_blank, rfl, reset_pc, rfl, rfl, rfl, rfl, rfl, reset_inv⟩
  case variant => exact hostRun_rejected (by simp [CartridgeRecord.rejection, hmapper]) cfg draw moves
  case noPage => exact hostRun_rejected (by simp [CartridgeRecord.rejection, hmapper, hpages]) cfg draw moves
  case accepted =>
    have haccepted : r.rejection = none := (rejection_eq_none r).mpr ⟨hmapper, hpages⟩
    have hpowerOn : powerOn cfg draw r = .next (constructed cfg draw r) := by rw [powerOn, haccepted]
    exact ⟨constructed cfg draw r, consoleReset (constructed cfg draw r), hpowerOn,
      launch_accepted haccepted cfg draw, hostRun_next haccepted cfg draw moves, rfl,
      constructed_prg_read cfg draw r, constructed_chr_ram cfg draw, constructed_chr_read cfg draw,
      launched_eq cfg draw r, fun hdraw hdelay hframe => launched_inv hdraw hdelay hframe hpages⟩

end Sys2Proof.Machine
end

section
/-! The memory seen by the CPU and by the PPU (R33 to R47), and the instructions that write it: the stores (R91 to R93) and the
read-modify-writes (R114, R115, R120 to R123), each as one bus write at the resolver's address. -/

namespace Sys2Proof.Machine

/-! ### Instructions of an Encoding line -/

theorem ruleEncodings_documented (m : Mnemonic) :
    ∀ e ∈ ruleEncodings m, (lookup e.opcode).opClass = .documented ∧ (lookup e.opcode).mnemonic = m := by
  cases m <;> decide +kernel

/-- An instruction that the rule of a mnemonic lists is a documented one of that mnemonic (R66). -/
theorem Encodes.documented {m : Mnemonic} {i : Instr} (h : Encodes m i) : i.isIllegal = false ∧ i.mnemonic = m := by
  obtain ⟨hclass, hmnemonic⟩ := ruleEncodings_documented m (encodingOf i) h
  exact ⟨congrArg (· == .illegal) hclass, hmnemonic⟩

/-- A listed instruction but JMP runs its mnemonic's handler, with `PC` past the instruction and its cycles counted (R69, R86). -/
theorem exec_encodes {m : Mnemonic} {i : Instr} (h : Encodes m i) (hj : m ≠ .JMP) (s : State) :
    exec i s = .next (handlerOf m i.operand (resolve i.operand s).addr
      { s with pc := nextPc i s, cycles := nextCycles i s }) := by
  obtain ⟨hillegal, rfl⟩ := h.documented
  rw [exec_handler i s hillegal hj, tableCycles, ← Nat.add_assoc]
  rfl

/-! ### Stores -/

theorem storedByte_eq_some {i : Instr} {s : State} {d : Byte} (h : storedByte i s = some d) :
    (Encodes .STA i ∧ s.a = d) ∨ (Encodes .STX i ∧ s.x = d) ∨ (Encodes .STY i ∧ s.y = d) := by
  unfold storedByte at h
  split at h
  · next hsta => exact .inl ⟨hsta, Option.some.inj h⟩
  · split at h
    · next hstx => exact .inr (.inl ⟨hstx, Option.some.inj h⟩)
    · split at h
      · next hsty => exact .inr (.inr ⟨hsty, Option.some.inj h⟩)
      · cases h

/-- A store is one bus write of its register at the effective address (R91 to R93). -/
theorem exec_store {i : Instr} {s : State} {d : Byte} (h : storedByte i s = some d) :
    exec i s = .next (memWrite (resolve i.operand s).addr d
      { s with pc := nextPc i s, cycles := nextCycles i s }) := by
  obtain ⟨henc, rfl⟩ | ⟨henc, rfl⟩ | ⟨henc, rfl⟩ := storedByte_eq_some h <;>
    exact exec_encodes henc (by decide) s

/-- Settles O11: a store is one bus write, and one below 0x2000 writes one byte of work RAM. -/
theorem storesToWorkRam : Obligations.StoresToWorkRam := by
  unfold Obligations.StoresToWorkRam
  intro i s d hd hwf haddr
  refine ⟨_, exec_store hd, ?_⟩
  rw [memWrite_ram haddr]
  exact ⟨rfl, Memory.read_write hwf _ d⟩

/-! ### Read-modify-writes -/

theorem setZN_eq_withZN (v : Byte) (p : Flags) : p.setZN v = withZN v p := by
  have hz : (v == 0) = decide (v = 0) := rfl
  rw [Flags.setZN, withZN, hz, BitVec.msb_eq_getLsbD_last]

theorem incResult_eq (v : Byte) (p : Flags) :
    incResult v p = ⟨BitVec.ofNat 8 (v.toNat + 1), withZN (BitVec.ofNat 8 (v.toNat + 1)) p⟩ := by
  have hv : v + 1 = BitVec.ofNat 8 (v.toNat + 1) := by bv_omega
  rw [incResult, plainResult, setZN_eq_withZN, hv]

theorem decResult_eq (v : Byte) (p : Flags) :
    decResult v p = ⟨BitVec.ofNat 8 (v.toNat + 255), withZN (BitVec.ofNat 8 (v.toNat + 255)) p⟩ := by
  have hv : v - 1 = BitVec.ofNat 8 (v.toNat + 255) := by bv_omega
  rw [decResult, plainResult, setZN_eq_withZN, hv]

/-- Bit 0 of a byte is its parity. -/
theorem lowBit (b : Byte) : b.getLsbD 0 = decide (b.toNat % 2 = 1) := by
  revert b; decide +kernel

/-- A left shift with a bit entering at the right doubles the byte and adds the bit. -/
theorem shiftLeft_or_bit (v : Byte) (c : Bool) :
    v <<< 1 ||| BitVec.ofNat 8 (bit c) = BitVec.ofNat 8 (2 * v.toNat + flagNat c) := by
  revert v c; decide +kernel

/-- A right shift with a bit entering at the left halves the byte and adds 128 times the bit. -/
theorem shiftRight_or_bit (v : Byte) (c : Bool) :
    v >>> 1 ||| BitVec.ofNat 8 (bit c) <<< 7 = BitVec.ofNat 8 (v.toNat / 2 + 128 * flagNat c) := by
  revert v c; decide +kernel

theorem shiftResult_eq (out : Bool) (r : Byte) (p : Flags) :
    shiftResult out r p = ⟨r, withZN r { p with c := out }⟩ := by
  rw [shiftResult, setZN_eq_withZN]

theorem aslResult_eq (v : Byte) (p : Flags) :
    aslResult v p = ⟨BitVec.ofNat 8 (2 * v.toNat),
      withZN (BitVec.ofNat 8 (2 * v.toNat)) { p with c := decide (128 ≤ v.toNat) }⟩ := by
  have hv : v <<< 1 = BitVec.ofNat 8 (2 * v.toNat) := by simpa [bit, flagNat] using shiftLeft_or_bit v false
  rw [aslResult, shiftResult_eq, signBit, hv]

theorem lsrResult_eq (v : Byte) (p : Flags) :
    lsrResult v p = ⟨BitVec.ofNat 8 (v.toNat / 2),
      withZN (BitVec.ofNat 8 (v.toNat / 2)) { p with c := decide (v.toNat % 2 = 1) }⟩ := by
  have hv : v >>> 1 = BitVec.ofNat 8 (v.toNat / 2) := by simpa [bit, flagNat] using shiftRight_or_bit v false
  rw [lsrResult, shiftResult_eq, lowBit, hv]

theorem rolResult_eq (v : Byte) (p : Flags) :
    rolResult v p = ⟨BitVec.ofNat 8 (2 * v.toNat + flagNat p.c),
      withZN (BitVec.ofNat 8 (2 * v.toNat + flagNat p.c)) { p with c := decide (128 ≤ v.toNat) }⟩ := by
  rw [rolResult, shiftResult_eq, signBit, shiftLeft_or_bit]

theorem rorResult_eq (v : Byte) (p : Flags) :
    rorResult v p = ⟨BitVec.ofNat 8 (v.toNat / 2 + 128 * flagNat p.c),
      withZN (BitVec.ofNat 8 (v.toNat / 2 + 128 * flagNat p.c)) { p with c := decide (v.toNat % 2 = 1) }⟩ := by
  rw [rorResult, shiftResult_eq, lowBit, shiftRight_or_bit]

/-- A mnemonic with a read-modify-write result has a handler that computes it, and it has no immediate encoding. -/
theorem handlerOf_modify {m : Mnemonic} {v r : Byte} {p q : Flags} (h : modifiedByte m v p = some (r, q)) :
    (∃ f, handlerOf m = modify f ∧ f v p = ⟨r, q⟩) ∧ ∀ e ∈ ruleEncodings m, e.mode ≠ .imm := by
  cases m
  case INC => cases h; exact ⟨⟨_, rfl, incResult_eq v p⟩, by decide⟩
  case DEC => cases h; exact ⟨⟨_, rfl, decResult_eq v p⟩, by decide⟩
  case ASL => cases h; exact ⟨⟨_, rfl, aslResult_eq v p⟩, by decide⟩
  case LSR => cases h; exact ⟨⟨_, rfl, lsrResult_eq v p⟩, by decide⟩
  case ROL => cases h; exact ⟨⟨_, rfl, rolResult_eq v p⟩, by decide⟩
  case ROR => cases h; exact ⟨⟨_, rfl, rorResult_eq v p⟩, by decide⟩
  all_goals cases h

/-- A handler's operand byte comes from the bus, but for an immediate and the accumulator. -/
theorem loadOperand_memory {o : Operand} (hacc : o ≠ .acc) (himm : o.mode ≠ .imm) (addr : Word) (s : State) :
    loadOperand o addr s = memRead addr s := by
  cases o
  case acc => exact absurd rfl hacc
  case imm => exact absurd rfl himm
  all_goals rfl

theorem storeOperand_memory {o : Operand} (hacc : o ≠ .acc) (addr : Word) (r : Byte) (s : State) :
    storeOperand o addr r s = memWrite addr r s := by
  cases o
  case acc => exact absurd rfl hacc
  all_goals rfl

/-- A read-modify-write on memory is one bus read and one bus write at the effective address, then the flags. -/
theorem exec_modify {m : Mnemonic} {i : Instr} (henc : Encodes m i) (hacc : i.operand ≠ .acc) {s : State}
    {r : Byte} {p : Flags} :
    let addr := (resolve i.operand s).addr
    let read := memRead addr { s with pc := nextPc i s, cycles := nextCycles i s }
    modifiedByte m read.1 s.p = some (r, p) → exec i s = .next ((memWrite addr r read.2).setP p) := by
  intro addr read h
  obtain ⟨⟨f, hf, hresult⟩, hmode⟩ := handlerOf_modify h
  have hj : m ≠ .JMP := by rintro rfl; cases h
  have hp : read.2.p = s.p := memRead_p addr _
  rw [exec_encodes henc hj, hf, modify, loadOperand_memory hacc (hmode _ henc), hp, hresult,
    storeOperand_memory hacc]

/-- Settles O25: below 0x2000 both bus accesses of a read-modify-write are to one byte of work RAM. -/
theorem memoryModifiesWorkRam : Obligations.MemoryModifiesWorkRam := by
  unfold Obligations.MemoryModifiesWorkRam
  intro i s m r p henc hacc hwf addr haddr h
  have hread := memRead_ram haddr { s with pc := nextPc i s, cycles := nextCycles i s }
  refine ⟨_, exec_modify henc hacc (by rw [hread]; exact h), ?_⟩
  rw [hread, memWrite_ram haddr]
  exact ⟨rfl, Memory.read_write hwf _ r⟩

/-! ### The bus by region -/

theorem mapperRead_prgRam {a : Word} (h : a.toNat < 0x8000) (c : Cartridge) :
    mapperRead c a = c.prgRam.read (a.toNat - 0x6000) :=
  if_pos (BitVec.lt_def.mpr h)

theorem mapperRead_prg {a : Word} (h : 0x8000 ≤ a.toNat) (c : Cartridge) :
    mapperRead c a = c.prg.read ((a.toNat - 0x8000) % (c.prgPages * 0x4000)) :=
  if_neg (fun hlt => Nat.not_lt.mpr h (BitVec.lt_def.mp hlt))

theorem mapperWrite_prgRam {a : Word} (h : a.toNat < 0x8000) (d : Byte) (c : Cartridge) :
    mapperWrite a d c = { c with prgRam := c.prgRam.write (a.toNat - 0x6000) d } :=
  if_pos (BitVec.lt_def.mpr h)

theorem mapperWrite_prg {a : Word} (h : 0x8000 ≤ a.toNat) (d : Byte) (c : Cartridge) :
    mapperWrite a d c = c :=
  if_neg (fun hlt => Nat.not_lt.mpr h (BitVec.lt_def.mp hlt))

/-- Settles O12: work RAM and the mapper's two ranges, read and written. -/
theorem plainMemoryAccess : Obligations.PlainMemoryAccess := by
  unfold Obligations.PlainMemoryAccess
  intro s a d
  refine ⟨fun hram => memRead_ram hram s, fun hlow hhigh => ?readRam, fun hrom => ?readRom,
    fun hlow hhigh hwf => ⟨_, rfl, ?writeRam⟩, fun hrom => ?writeRom⟩
  case readRam => rw [memRead_mapper hlow, mapperRead_prgRam hhigh]
  case readRom => rw [memRead_mapper (by omega), mapperRead_prg hrom]
  case writeRam =>
    rw [memWrite_mapper hlow, mapperWrite_prgRam hhigh]
    exact ⟨rfl, Memory.read_write hwf _ d⟩
  case writeRom =>
    rw [memWrite_mapper (by omega), mapperWrite_prg hrom]
    rfl

/-- The trigger of OAM DMA reads as an undefined address does (R34). -/
theorem memRead_oamDma (s : State) : memRead 0x4014 s = (0, s.logDiag (.invalidRead 0x4014)) := rfl

/-- Reading a write-only PPU register gives 0 and logs the register's own address, not the mirror's (R171). -/
theorem ppuRegRead_writeOnly {sel : Nat} (h : sel ∈ [0, 1, 3, 5, 6]) (s : State) :
    ppuRegRead (PpuReg.ofSel (BitVec.ofNat 3 sel)) s =
      (0, s.logDiag (.invalidRead (BitVec.ofNat 16 (0x2000 + sel)))) := by
  simp only [List.mem_cons, List.not_mem_nil, or_false] at h
  rcases h with rfl | rfl | rfl | rfl | rfl <;> rfl

/-- Settles O13: undefined addresses, the read of 0x4014, and the write-only PPU registers. -/
theorem invalidAccessesAreLogged : Obligations.InvalidAccessesAreLogged := by
  unfold Obligations.InvalidAccessesAreLogged
  intro s a d
  refine ⟨fun hlow hhigh hport => ⟨?read, fun hdma => ?write⟩, fun sel hsel hselects => ?writeOnly⟩
  case read =>
    by_cases hdma : a = 0x4014
    · subst hdma
      exact memRead_oamDma s
    · have hne : a.toNat ≠ 0x4014 := fun h => hdma (BitVec.eq_of_toNat_eq h)
      exact memRead_invalid hlow hhigh (by omega) s
  case write => exact memWrite_invalid hlow hhigh (by omega) d s
  case writeOnly =>
    obtain ⟨hlow, hhigh, hmod⟩ := hselects
    rw [(ppuWindow hlow hhigh hmod).1]
    exact ppuRegRead_writeOnly hsel s

/-- Settles O14: at each port's address the translator computes, and its arm of the bus is the draw or the unchanged state. -/
theorem externalPortsAreOracles : Obligations.ExternalPortsAreOracles := by
  unfold Obligations.ExternalPortsAreOracles
  exact fun s d => ⟨rfl, rfl, rfl, rfl, rfl, rfl⟩

/-! ### The PPU's address space -/

/-- The rows of R45's table as arithmetic on the quadrant. -/
theorem mirrorRow_getD (m : Mirror) {q : Nat} (h : q < 4) : (mirrorRow m).getD q 0 = physicalQuadrant m q := by
  cases m <;> interval_cases q <;> rfl

/-- Only four-screen mirroring reaches the physical quadrants 2 and 3 (R45). -/
theorem physicalQuadrant_lt {m : Mirror} (hm : m ≠ .fourScreen) {q : Nat} (h : q < 4) : physicalQuadrant m q < 2 := by
  cases m
  case fourScreen => exact absurd rfl hm
  all_goals simp only [physicalQuadrant]; omega

/-- The modes but four-screen use 2 KB of `vram` (R45). -/
theorem nametableIndex_lt {m : Mirror} (hm : m ≠ .fourScreen) (addr : Nat) : nametableIndex m addr < 2048 := by
  have hq := physicalQuadrant_lt hm (Nat.mod_lt (addr / 0x400) (show 0 < 4 by decide))
  unfold nametableIndex
  omega

/-- What a PPU address selects, in the terms of the statements (R42 to R46). -/
theorem ppuTranslate_mod (m : Mirror) (a : Word) :
    ppuTranslate m a =
      if a.toNat % 0x4000 < 0x2000 then ⟨.chr, a.toNat % 0x4000⟩
      else if a.toNat % 0x4000 < 0x3F00 then ⟨.vram, nametableIndex m (a.toNat % 0x4000)⟩
      else ⟨.palette, paletteEntry (a.toNat % 0x4000)⟩ := by
  rw [ppuTranslate_eq, mirrorRow_getD m (Nat.mod_lt _ (by decide)), nametableIndex, paletteEntry,
    show a.toNat % 0x4000 / 0x400 % 4 = a.toNat / 0x400 % 4 by omega,
    show a.toNat % 0x4000 % 0x400 = a.toNat % 0x400 by omega,
    show a.toNat % 0x4000 % 4 = a.toNat % 4 by omega,
    show a.toNat % 0x4000 % 32 = a.toNat % 32 by omega]

/-- A PPU read is the byte at the address modulo 0x4000 (R42, R47). -/
theorem ppuRead_eq (s : State) (a : Word) : ppuRead s a = ppuByte s (a.toNat % 0x4000) := by
  rw [ppuRead, ppuTranslate_mod, ppuByte]
  by_cases hchr : a.toNat % 0x4000 < 0x2000
  · rw [if_pos hchr, if_pos hchr]
  · rw [if_neg hchr, if_neg hchr]
    by_cases hvram : a.toNat % 0x4000 < 0x3F00
    · rw [if_pos hvram, if_pos hvram]
    · rw [if_neg hvram, if_neg hvram]

/-- Settles O47: a PPU read by the address's region, and the 2 KB bound of the modes but four-screen. -/
theorem nametableMirroring : Obligations.NametableMirroring := by
  unfold Obligations.NametableMirroring
  intro s a addr index
  rw [ppuRead_eq, ppuByte]
  refine ⟨fun hchr => if_pos hchr, fun hlow hhigh => ⟨?nametable, fun hm => nametableIndex_lt hm addr⟩,
    fun hpalette => ?palette⟩
  case nametable => rw [if_neg (Nat.not_lt.mpr hlow), if_pos hhigh]
  case palette => rw [if_neg (by omega), if_neg (Nat.not_lt.mpr hpalette)]

end Sys2Proof.Machine
end

section
/-! The encoding: `decode` and `encode` are inverse to each other (R60 to R62, R65, R66), the example words of R67, and the
instruction table against R204's timing by mode and the rules' Encoding lines (R88 to R146). -/

namespace Sys2Proof

/-! ### What a row builds -/

/-- The instructions that a row builds from its operand bytes (R61, R62). -/
inductive Build.Makes : Build → Instr → Prop
  | bare (i : Instr) : Makes (.bare i) i
  | byte (f : Byte → Instr) (b : Byte) : Makes (.byte f) (f b)
  | word (f : Word → Instr) (w : Word) : Makes (.word f) (f w)

/-- Every instruction is made by the row of its own opcode (R65): with the opcode written out, the row's `Build` computes. -/
theorem row_makes (i : Instr) : (rowOf i.code.opcode).build.Makes i := by
  cases i <;> dsimp only [Instr.code] <;> constructor

/-- Every row makes some instruction, so no opcode is undefined (R66, R148). -/
theorem Build.exists_makes (build : Build) : ∃ i, build.Makes i := by
  cases build with
  | bare i => exact ⟨i, .bare i⟩
  | byte f => exact ⟨f 0, .byte f 0⟩
  | word f => exact ⟨f 0, .word f 0⟩

/-- An instruction that the row of `op` makes has `op` as its opcode. -/
theorem opcode_of_makes {op : Byte} {i : Instr} (h : (rowOf op).build.Makes i) : i.code.opcode = op := by
  have hfits := row_fits op
  generalize (rowOf op).build = build at h hfits
  cases h with
  | bare i => exact List.head_eq_of_cons_eq hfits
  | byte f b => exact List.head_eq_of_cons_eq (hfits b)
  | word f w => exact List.head_eq_of_cons_eq (hfits w)

theorem exists_opcode (op : Byte) : ∃ i : Instr, i.code.opcode = op :=
  (rowOf op).build.exists_makes.imp fun _ => opcode_of_makes

/-! ### The decoder, by what the opcode's row builds -/

section
variable {op : Byte}

theorem decode_bare {i : Instr} (h : (rowOf op).build = .bare i) (rest : List Byte) :
    decode (op :: rest) = .ok (i, rest) := by
  simp only [decode, h]

theorem decode_byte {f : Byte → Instr} (h : (rowOf op).build = .byte f) (b : Byte) (rest : List Byte) :
    decode (op :: b :: rest) = .ok (f b, rest) := by
  simp only [decode, h]

theorem decode_word {f : Word → Instr} (h : (rowOf op).build = .word f) (b1 b2 : Byte) (rest : List Byte) :
    decode (op :: b1 :: b2 :: rest) = .ok (f (wordOf b2 b1), rest) := by
  simp only [decode, h]

/-- Decoding undoes encoding for what the row of an opcode makes. -/
theorem decode_encode_of_makes {i : Instr} (h : (rowOf op).build.Makes i) (rest : List Byte) :
    decode (encode i ++ rest) = .ok (i, rest) := by
  have hfits := row_fits op
  generalize hbuild : (rowOf op).build = build at h hfits
  cases h with
  | bare i =>
    rw [show encode i = [op] from hfits]
    exact decode_bare hbuild rest
  | byte f b =>
    rw [hfits b]
    exact decode_byte hbuild b rest
  | word f w =>
    rw [hfits w]
    exact (decode_word hbuild (lo w) (hi w) rest).trans (by rw [wordOf_hi_lo])

end

theorem decode_encode (i : Instr) (rest : List Byte) : decode (encode i ++ rest) = .ok (i, rest) :=
  decode_encode_of_makes (row_makes i) rest

/-- Bytes that decode are the instruction's own, and those left over. -/
theorem eq_encode_of_decode {bytes : List Byte} {i : Instr} {rest : List Byte}
    (h : decode bytes = .ok (i, rest)) : bytes = encode i ++ rest := by
  cases bytes with
  | nil => cases h
  | cons op tail =>
    have hfits := row_fits op
    unfold decode at h
    dsimp only at h
    split at h
    · next hbuild =>
      cases h
      rw [hbuild] at hfits
      rw [show encode i = [op] from hfits, List.singleton_append]
    · next f b left hbuild =>
      cases h
      rw [hbuild] at hfits
      rw [hfits b, List.cons_append, List.singleton_append]
    · next f b1 b2 left hbuild =>
      cases h
      rw [hbuild] at hfits
      rw [hfits (wordOf b2 b1), lo_wordOf, hi_wordOf]
      rfl
    · cases h

/-- Three bytes are enough for every row. -/
theorem exists_decode (b0 b1 b2 : Byte) (rest : List Byte) :
    ∃ i left, decode (b0 :: b1 :: b2 :: rest) = .ok (i, left) := by
  cases hbuild : (rowOf b0).build with
  | bare i => exact ⟨i, _, decode_bare hbuild _⟩
  | byte f => exact ⟨f b1, _, decode_byte hbuild b1 _⟩
  | word f => exact ⟨f (wordOf b2 b1), _, decode_word hbuild b1 b2 rest⟩

/-! ### The round trips and the example words -/

/-- Settles O1: the row of an instruction's opcode makes the instruction, and a row's instructions decode from their bytes. -/
theorem decodeInvertsEncode : Obligations.DecodeInvertsEncode := by
  unfold Obligations.DecodeInvertsEncode
  exact decode_encode

/-- Settles O2: what a row builds from the bytes has these bytes as its encoding. -/
theorem encodeInvertsDecode : Obligations.EncodeInvertsDecode := by
  unfold Obligations.EncodeInvertsDecode
  exact fun _ _ _ => eq_encode_of_decode

/-- Settles O3: three bytes decode, and since they are the instruction's encoding the first is its opcode. -/
theorem everyOpcodeDecodes : Obligations.EveryOpcodeDecodes := by
  unfold Obligations.EveryOpcodeDecodes
  intro b0 b1 b2 rest
  obtain ⟨i, left, h⟩ := exists_decode b0 b1 b2 rest
  exact ⟨i, left, h, (List.head_eq_of_cons_eq (eq_encode_of_decode h)).symm, Machine.instr_wellFormed i⟩

/-- Settles O4: each example word is the encoding of its instruction, so it decodes to it. -/
theorem exampleWordsDecode : Obligations.ExampleWordsDecode := by
  unfold Obligations.ExampleWordsDecode
  exact ⟨decode_encode .inx [], decode_encode .aslAcc [], decode_encode (.ldaImm 0x10) [],
    decode_encode (.ldaZp 0x10) [], decode_encode (.ldaZpx 0x10) [], decode_encode (.ldxZpy 0x10) [],
    decode_encode (.ldaIzx 0x10) [], decode_encode (.ldaIzy 0x10) [], decode_encode (.bne 0xF9) [],
    decode_encode (.ldaAbs 0x1234) [], decode_encode (.ldaAbsx 0x1234) [], decode_encode (.ldaAbsy 0x1234) [],
    decode_encode (.jmpInd 0x1234) []⟩

end Sys2Proof

namespace Sys2Proof.Machine

/-! ### The instruction table -/

theorem rowOf_mem (op : Byte) : rowOf op ∈ instructionTable.flatten :=
  List.mem_flatten_of_mem (List.getElem_mem _) (List.getElem_mem _)

/-- The bounds of the table's sizes and cycles (R65). -/
theorem row_bounds : ∀ row ∈ instructionTable.flatten,
    1 ≤ row.descriptor.size ∧ row.descriptor.size ≤ 3 ∧ 2 ≤ row.descriptor.cycles ∧
      row.descriptor.cycles ≤ 8 ∧ row.descriptor.pageCycles ≤ 1 := by
  decide +kernel

/-- R204's table by mode holds in every documented read-only row. -/
theorem row_readOnlyTiming : ∀ row ∈ instructionTable.flatten,
    row.descriptor.opClass = .documented → row.descriptor.mnemonic ∈ readOnlyMnemonics →
      readOnlyTiming row.descriptor.mode =
        some (row.descriptor.size, row.descriptor.cycles, row.descriptor.pageCycles) := by
  decide +kernel

/-- Settles O5: the bounds and R204's timings, row by row. -/
theorem tableTimingByMode : Obligations.TableTimingByMode := by
  unfold Obligations.TableTimingByMode
  intro op
  obtain ⟨hsize, hsize', hcycles, hcycles', hpage⟩ := row_bounds _ (rowOf_mem op)
  exact ⟨hsize, hsize', hcycles, hcycles', hpage, row_readOnlyTiming _ (rowOf_mem op)⟩

/-- What an Encoding line says of an opcode, as the instruction table has it (R65). -/
def tableEncoding (op : Byte) : RuleEncoding :=
  ⟨op, (lookup op).mode, (lookup op).size, (lookup op).cycles, (lookup op).pageCycles⟩

/-- An instruction's own mode and length are those of its row. -/
theorem encodingOf_eq (i : Instr) : encodingOf i = tableEncoding i.code.opcode := by
  obtain ⟨hmode, hsize⟩ := instr_agrees i
  rw [encodingOf, hmode, hsize]
  rfl

/-- An Encoding line says what the table says of its opcode. -/
theorem tableEncoding_of_listed (m : Mnemonic) : ∀ e ∈ ruleEncodings m, tableEncoding e.opcode = e := by
  cases m <;> decide

/-- Every documented opcode stands in the Encoding line of its mnemonic's rule. -/
theorem documented_listed (op : Byte) :
    (lookup op).opClass = .documented → tableEncoding op ∈ ruleEncodings (lookup op).mnemonic := by
  revert op; decide +kernel

theorem encodes_of_isDocumented {i : Instr} {m : Mnemonic} (h : i.isDocumented m = true) : Encodes m i := by
  rw [Instr.isDocumented, Bool.and_eq_true, beq_iff_eq, beq_iff_eq] at h
  obtain ⟨hclass, rfl⟩ := h
  rw [Encodes, encodingOf_eq]
  exact documented_listed i.code.opcode hclass

/-- Settles O6: an Encoding line lists documented opcodes of its mnemonic only, and all of them; and every opcode is some
instruction's. -/
theorem encodingLinesMatch : Obligations.EncodingLinesMatch := by
  unfold Obligations.EncodingLinesMatch
  refine ⟨fun i m => ⟨fun h => (isDocumented_iff i m).mpr h.documented, encodes_of_isDocumented⟩, fun m e he => ?_⟩
  obtain ⟨i, hi⟩ := exists_opcode e.opcode
  exact ⟨i, by rw [encodingOf_eq, hi, tableEncoding_of_listed m e he]⟩

end Sys2Proof.Machine
end

section
/-! The addressing modes without and with a zero-page pointer (R71 to R81, R83), and the step as the instruction at PC (R69, R186). -/

namespace Sys2Proof.Machine

/-! ### Addresses as numbers -/

theorem zext16_eq_ofNat (b : Byte) : zext16 b = BitVec.ofNat 16 b.toNat := (BitVec.ofNat_toNat ..).symm

/-- A zero-page index addition wraps inside zero page (R75, R76). -/
theorem zext16_add_eq_ofNat (b index : Byte) :
    zext16 (b + index) = BitVec.ofNat 16 ((b.toNat + index.toNat) % 256) := by
  rw [zext16_eq_ofNat, BitVec.toNat_add]

theorem wordOf_eq_ofNat (h l : Byte) : wordOf h l = BitVec.ofNat 16 (l.toNat + 256 * h.toNat) := by
  rw [Nat.add_comm, ← wordOf_toNat, BitVec.ofNat_toNat, BitVec.setWidth_eq]

/-- A branch target is the signed sum of the next instruction's address and the displacement (R83). -/
theorem relTarget_eq_ofInt (pc : Word) (b : Byte) :
    pc + 2 + sext16 b = BitVec.ofInt 16 (pc.toNat + 2 + b.toInt) := by
  rw [BitVec.ofInt_add, BitVec.ofInt_add, BitVec.ofInt_natCast, BitVec.ofNat_toNat, BitVec.setWidth_eq]
  rfl

/-! ### The indexed modes -/

/-- An index is added in 16 bits, and the page cross compares the pages before and after (R78, R79, R81, R84). -/
theorem Resolved.indexed_eq (base : Word) (index : Byte) (s : State) :
    Resolved.indexed base index s =
      ⟨BitVec.ofNat 16 (base.toNat + index.toNat),
        decide (base.toNat / 256 ≠ (base.toNat + index.toNat) % 65536 / 256), s⟩ := by
  have haddr : base + zext16 index = BitVec.ofNat 16 (base.toNat + index.toNat) := by
    rw [BitVec.ofNat_add, BitVec.ofNat_toNat, BitVec.setWidth_eq, zext16_eq_ofNat]
  rw [Resolved.indexed, pageCrossed_eq, haddr, BitVec.toNat_ofNat]

/-- A zero-page pointer is two bytes of zero page, the second wrapping in it (R80, R81). -/
theorem readZeroPagePointer_ofNat (p : Byte) (s : State) :
    readZeroPagePointer p s =
      (BitVec.ofNat 16 ((s.ram.read p.toNat).toNat + 256 * (s.ram.read ((p.toNat + 1) % 256)).toNat), s) := by
  rw [readZeroPagePointer_eq, wordOf_eq_ofNat, BitVec.toNat_add]
  rfl

/-- Settles O8: each mode reads one zero-page pointer, `(zp,X)` at the indexed address, `(zp),Y` before it indexes. -/
theorem zeroPagePointerModesResolve : Obligations.ZeroPagePointerModesResolve := by
  unfold Obligations.ZeroPagePointerModesResolve
  intro s b p base
  refine ⟨?izx, ?izy⟩
  case izx =>
    have hp : (b + s.x).toNat = p := BitVec.toNat_add b s.x
    simp only [resolve, readZeroPagePointer_ofNat, hp, Resolved.plain]
  case izy =>
    have hbase : (BitVec.ofNat 16 base).toNat = base := Nat.mod_eq_of_lt (by omega)
    simp only [resolve, readZeroPagePointer_ofNat]
    change Resolved.indexed (BitVec.ofNat 16 base) s.y s = _
    rw [Resolved.indexed_eq, hbase]

/-- Settles O7: each mode's address as a number; the indexed ones by the law of index addition. -/
theorem directModesResolve : Obligations.DirectModesResolve := by
  unfold Obligations.DirectModesResolve
  intro s b w
  refine ⟨rfl, rfl, ?imm, ?zp, ?zpx, ?zpy, rfl, Resolved.indexed_eq w s.x s, Resolved.indexed_eq w s.y s, ?rel⟩
  case imm => rw [resolve, Resolved.plain, BitVec.ofNat_add, BitVec.ofNat_toNat, BitVec.setWidth_eq]; rfl
  case zp => rw [resolve, Resolved.plain, zext16_eq_ofNat]
  case zpx => rw [resolve, Resolved.plain, zext16_add_eq_ofNat]
  case zpy => rw [resolve, Resolved.plain, zext16_add_eq_ofNat]
  case rel => rw [resolve, Resolved.plain, relTarget_eq_ofInt]

/-! ### Fetching from plain memory -/

/-- Reading a plain byte changes nothing. -/
theorem memRead_plain_st {a : Word} (h : isPlain a = true) (s : State) : (memRead a s).2 = s := by
  rw [isPlain, Bool.or_eq_true, beq_iff_eq, beq_iff_eq] at h
  obtain hram | hmapper := h
  · simp only [memRead, hram]
  · simp only [memRead, hmapper]

/-- A fetch of three plain bytes is the decoding of these bytes, and changes nothing (R61, R69, R87). -/
theorem fetch_of_decode {s : State} {i : Instr} {rest : List Byte}
    (h0 : isPlain s.pc = true) (h1 : isPlain (s.pc + 1) = true) (h2 : isPlain (s.pc + 2) = true)
    (h : decode [(memRead s.pc s).1, (memRead (s.pc + 1) s).1, (memRead (s.pc + 2) s).1] = .ok (i, rest)) :
    fetch s = (i, s) := by
  have hnext : s.pc + 1 + 1 = s.pc + 2 := by rw [BitVec.add_assoc]; rfl
  cases hbuild : (rowOf (memRead s.pc s).1).build with
  | bare j =>
    rw [decode_bare hbuild] at h
    cases h
    simp only [fetch, hbuild, memRead_plain_st h0]
  | byte f =>
    rw [decode_byte hbuild] at h
    cases h
    simp only [fetch, hbuild, memRead_plain_st h0, memRead_plain_st h1, ite_self]
  | word f =>
    rw [decode_word hbuild] at h
    cases h
    simp only [fetch, hbuild, memRead16, memReadPair, hnext, memRead_plain_st h0, memRead_plain_st h1,
      memRead_plain_st h2]

/-! ### Before the instruction -/

/-- The IRQ sample uses up one sample and may fill the slot (R151). -/
theorem sampleIrq_eq (s : State) :
    sampleIrq s = { s with pending := (sampleIrq s).pending, irqInput := s.irqInput.tail } := by
  unfold sampleIrq
  dsimp only
  split <;> rfl

/-- Discarding a masked request empties the slot and no more (R152). -/
theorem dropMasked_eq (s : State) : dropMasked s = { s with pending := (dropMasked s).pending } := by
  unfold dropMasked
  split <;> rfl

/-- Sample and discard together. -/
theorem dropMasked_sampleIrq_eq (s : State) :
    dropMasked (sampleIrq s) =
      { s with pending := (dropMasked (sampleIrq s)).pending, irqInput := s.irqInput.tail } := by
  rw [dropMasked_eq, sampleIrq_eq]

/-- The byte a bus read gives does not depend on the interrupt slot and the line's samples. -/
theorem memRead_slot_byte (a : Word) (s : State) (k : Option Interrupt) (line : List Bool) :
    (memRead a { s with pending := k, irqInput := line }).1 = (memRead a s).1 := by
  rw [memRead_other a s s.a s.x s.y s.sp s.pc s.p s.cycles k s.fault line]

/-- A step that services no interrupt is the fetched instruction, then the dots of its cycles (R69, R186). -/
theorem step_of_not_serviceable {s : State} (hfault : s.fault = none)
    (h : serviceable (sampleIrq s).pending (sampleIrq s).p.i = none) :
    step s = runDots s.cycles
      (exec (fetch (dropMasked (sampleIrq s))).1 (fetch (dropMasked (sampleIrq s))).2) := by
  simp only [step, hfault, cpuStep, h]

/-- Settles O36: before the instruction only the slot and the samples change, so the bytes at `PC` still decode to it. -/
theorem stepRunsDecodedInstruction : Obligations.StepRunsDecodedInstruction := by
  unfold Obligations.StepRunsDecodedInstruction
  intro s i rest h0 h1 h2 hdecode hfault hserviceable u
  have hu : u = { s with pending := u.pending, irqInput := s.irqInput.tail } := dropMasked_sampleIrq_eq s
  have hp : (sampleIrq s).p = s.p := by rw [sampleIrq_eq]
  have hpc : u.pc = s.pc := by rw [hu]
  have hbyte (a : Word) : (memRead a u).1 = (memRead a s).1 := by rw [hu, memRead_slot_byte]
  have hfetch : fetch u = (i, u) := by
    rw [← hpc] at h0 h1 h2
    simp only [← hbyte, ← hpc] at hdecode
    exact fetch_of_decode h0 h1 h2 hdecode
  refine ⟨?_, hu⟩
  rw [step_of_not_serviceable hfault (by rw [hp]; exact hserviceable)]
  change runDots s.cycles (exec (fetch u).1 (fetch u).2) = _
  rw [hfetch]

end Sys2Proof.Machine
end

section
/-! Loads, stores, transfers and the stack instructions (R88 to R103): each runs its mnemonic's handler with `PC` past the instruction
and its cycles counted, and the handler is one operand access, one register copy, one push or one pop. -/

namespace Sys2Proof.Machine

/-! ### The operand of a listed instruction -/

/-- A mode that no entry of the Encoding line has is not the operand's mode. -/
theorem Encodes.operand_ne {m : Mnemonic} {i : Instr} {o : Operand} (henc : Encodes m i)
    (hmode : ∀ e ∈ ruleEncodings m, e.mode ≠ o.mode) : i.operand ≠ o :=
  fun ho => hmode _ henc (congrArg Operand.mode ho)

/-- A listed instruction without operand runs its handler one byte further (R71). -/
theorem exec_implied {m : Mnemonic} {i : Instr} (henc : Encodes m i) (himp : i.operand = .imp) (s : State) :
    exec i s = .next (handlerOf m .imp 0 { s with pc := s.pc + 1, cycles := s.cycles + i.descriptor.cycles }) := by
  have hj : m ≠ .JMP := by rintro rfl; exact henc.operand_ne (o := .imp) (by decide) himp
  have hpc : nextPc i s = s.pc + 1 := by
    have hlength : (encode i).length = i.operand.bytes.length + 1 := rfl
    rw [nextPc, hlength, himp]
    rfl
  have hcycles : nextCycles i s = s.cycles + i.descriptor.cycles := by rw [nextCycles, himp]; rfl
  rw [exec_encodes henc hj, hpc, hcycles, himp]
  rfl

/-! ### Reading the operand -/

/-- What a bus read gives does not depend on `PC` or the cycle counter. -/
theorem memRead_pc_cycles (a : Word) (s : State) (pc : Word) (cycles : Nat) :
    memRead a { s with pc := pc, cycles := cycles } =
      ((memRead a s).1, { (memRead a s).2 with pc := pc, cycles := cycles }) := by
  refine (memRead_other a s s.a s.x s.y s.sp pc s.p cycles s.pending s.fault s.irqInput).trans ?_
  rw [(memRead_frame a s).1]

/-- The byte a handler loads, after `PC` and the cycles moved on, is the one read before, but for the accumulator (R73, R87). -/
theorem loadOperand_eq_operandRead {i : Instr} (hacc : i.operand ≠ .acc) (s : State) (pc : Word) (cycles : Nat) :
    loadOperand i.operand (resolve i.operand s).addr { s with pc := pc, cycles := cycles } =
      ((operandRead i s).1, { (operandRead i s).2 with pc := pc, cycles := cycles }) := by
  unfold operandRead
  cases ho : i.operand
  case acc => exact absurd ho hacc
  case imm => rfl
  all_goals simp only [loadOperand, memRead_pc_cycles]

theorem operandRead_onlyReadEffects (i : Instr) (s : State) : OnlyReadEffects s (operandRead i s).2 := by
  unfold operandRead
  split
  · exact ⟨rfl, rfl, rfl, rfl⟩
  · exact memRead_frame _ s

@[simp] theorem operandRead_p (i : Instr) (s : State) : (operandRead i s).2.p = s.p := by
  rw [(operandRead_onlyReadEffects i s).1]

/-! ### Loads and stores -/

/-- A load: the operand byte into the register, Z and N of it (R88 to R90). -/
theorem exec_load {m : Mnemonic} {i : Instr} {set : Byte → State → State} (henc : Encodes m i)
    (hhandler : handlerOf m = loadInto set) (hj : m ≠ .JMP) (hacc : i.operand ≠ .acc) (s : State) :
    let r := operandRead i s
    exec i s = .next ((set r.1 { r.2 with pc := nextPc i s, cycles := nextCycles i s }).setP (withZN r.1 s.p)) := by
  rw [exec_encodes henc hj, hhandler, loadInto, loadOperand_eq_operandRead hacc, setZN_eq_withZN]
  simp only [operandRead_p]

/-- Settles O9: the three loads are one handler with three registers, and a read has only a read's effects. -/
theorem loadsPutOperandInRegister : Obligations.LoadsPutOperandInRegister := by
  unfold Obligations.LoadsPutOperandInRegister
  intro i s
  refine ⟨fun hlda => ?_, fun hldx => ?_, fun hldy => ?_, operandRead_onlyReadEffects i s⟩
  · exact exec_load (set := State.setA) hlda rfl (by decide) (hlda.operand_ne (by decide)) s
  · exact exec_load (set := State.setX) hldx rfl (by decide) (hldx.operand_ne (by decide)) s
  · exact exec_load (set := State.setY) hldy rfl (by decide) (hldy.operand_ne (by decide)) s

/-- Settles O10: the store law holds at every address. -/
theorem storesMakeOneBusWrite : Obligations.StoresMakeOneBusWrite := by
  unfold Obligations.StoresMakeOneBusWrite
  exact fun _ _ _ => exec_store

/-! ### Transfers -/

/-- Settles O15: five transfers copy and set Z and N of the value, TXS only copies. -/
theorem transfersCopyRegister : Obligations.TransfersCopyRegister := by
  unfold Obligations.TransfersCopyRegister
  intro s
  simp only [← setZN_eq_withZN]
  exact ⟨rfl, exec_implied (m := .TAX) (by decide) rfl s, exec_implied (m := .TAY) (by decide) rfl s,
    exec_implied (m := .TXA) (by decide) rfl s, exec_implied (m := .TYA) (by decide) rfl s,
    exec_implied (m := .TSX) (by decide) rfl s, exec_implied (m := .TXS) (by decide) rfl s⟩

/-! ### The stack -/

/-- PHA and PHP push a byte: A, or the status byte with B and U set (R100, R102). -/
theorem exec_push {i : Instr} {s : State} {d : Byte}
    (h : (i = .pha ∧ d = s.a) ∨ (i = .php ∧ d = Flags.toByte { s.p with b := true, u := true })) :
    exec i s = .next (push d { s with pc := s.pc + 1, cycles := s.cycles + 3 }) := by
  obtain ⟨rfl, rfl⟩ | ⟨rfl, rfl⟩ := h
  · exact exec_implied (m := .PHA) (by decide) rfl s
  · rw [← (toByte_forced s.p).1]
    exact exec_implied (m := .PHP) (by decide) rfl s

/-- Settles O16: a push is one write of work RAM at the stack pointer's offset. -/
theorem pushesStoreOneByte : Obligations.PushesStoreOneByte := by
  unfold Obligations.PushesStoreOneByte
  intro s hwf i d h
  refine ⟨rfl, _, exec_push h, ?_⟩
  rw [push_eq]
  exact ⟨rfl, Memory.read_write hwf _ d⟩

/-- Settles O17: a pop reads the byte above the stack pointer; the flags read from a byte have it as their status byte. -/
theorem pullsTakeOneByte : Obligations.PullsTakeOneByte := by
  unfold Obligations.PullsTakeOneByte
  intro s v u
  refine ⟨rfl, ?_, Flags.fromByte v, ?_, ?_⟩
  · rw [exec_implied (m := .PLA) (by decide) rfl, handlerOf, handlePla, pop_eq, setZN_eq_withZN]
    rfl
  · rw [exec_implied (m := .PLP) (by decide) rfl, handlerOf, handlePlp, pop_eq]
    rfl
  · rw [← toByte_toNat, toByte_fromByte]

end Sys2Proof.Machine
end

section
/-! Arithmetic, logic, compares, increments and shifts (R105 to R123): a handler that reads its operand acts on the byte of
`operandRead`, and its flag computation is the arithmetic of the rule. -/

namespace Sys2Proof.Machine

/-! ### The flag computations as numbers -/

theorem setZNUnlessDecimal_eq (v : Byte) (p : Flags) :
    p.setZNUnlessDecimal v = if p.d = true then p else withZN v p := by
  rw [Flags.setZNUnlessDecimal, setZN_eq_withZN]

/-- ADC's V is set exactly when the signed sum does not fit a byte (R105). -/
theorem adcResult_eq (a m : Byte) (p : Flags) :
    let sum := a.toNat + m.toNat + flagNat p.c
    let signed := a.toInt + m.toInt + flagNat p.c
    let q := { p with c := decide (255 < sum), v := decide (signed < -128 ∨ 127 < signed) }
    adcResult a m p =
      ⟨BitVec.ofNat 8 sum, if p.d = true then q else withZN (BitVec.ofNat 8 sum) q⟩ := by
  simp only [adcResult, adc_overflow, setZNUnlessDecimal_eq]
  rfl

/-- SBC's C is the absence of a borrow, and its V is set exactly when the signed difference does not fit a byte (R106). -/
theorem sbcResult_eq (a m : Byte) (p : Flags) :
    let borrow := 1 - flagNat p.c
    let signed := a.toInt - m.toInt - borrow
    let res := BitVec.ofNat 8 (a.toNat + 256 - m.toNat - borrow)
    let q := { p with
      c := decide (m.toNat + borrow ≤ a.toNat), v := decide (signed < -128 ∨ 127 < signed) }
    sbcResult a m p = ⟨res, if p.d = true then q else withZN res q⟩ := by
  have hcarry : ((a.toNat : Int) - m.toNat - (1 - (bit p.c : Int)) ≥ 0) = (m.toNat + (1 - bit p.c) ≤ a.toNat) := by
    have hbit := bit_le p.c
    exact propext (by omega)
  simp only [sbcResult, sbc_difference, sbc_overflow, hcarry, setZNUnlessDecimal_eq]
  rfl

theorem plainResult_eq (r : Byte) (p : Flags) : plainResult r p = ⟨r, withZN r p⟩ := by
  rw [plainResult, setZN_eq_withZN]

/-- Bit 6 of a byte is the parity of the byte divided by 64. -/
theorem bitSix (b : Byte) : b.getLsbD 6 = decide (b.toNat / 64 % 2 = 1) := by
  revert b; decide +kernel

theorem bitFlags_eq (a m : Byte) (p : Flags) :
    bitFlags a m p = { p with
      z := decide (a &&& m = 0), v := decide (m.toNat / 64 % 2 = 1), n := decide (128 ≤ m.toNat) } := by
  rw [bitFlags, signBit, bitSix]
  rfl

/-! ### Handlers that read their operand and write no memory -/

@[simp] theorem operandRead_a (i : Instr) (s : State) : (operandRead i s).2.a = s.a := by
  rw [(operandRead_onlyReadEffects i s).1]

@[simp] theorem operandRead_x (i : Instr) (s : State) : (operandRead i s).2.x = s.x := by
  rw [(operandRead_onlyReadEffects i s).1]

@[simp] theorem operandRead_y (i : Instr) (s : State) : (operandRead i s).2.y = s.y := by
  rw [(operandRead_onlyReadEffects i s).1]

/-- A handler that computes flags from a register and the operand byte and writes nothing else: the compares and BIT (R110 to
R113). -/
def testWith (get : State → Byte) (f : Byte → Byte → Flags → Flags) : Handler := fun o addr s =>
  let m := loadOperand o addr s
  m.2.setP (f (get m.2) m.1 m.2.p)

theorem compareWith_eq_testWith (get : State → Byte) : compareWith get = testWith get compareFlags := rfl

theorem handleBit_eq_testWith : handleBit = testWith State.a bitFlags := rfl

section
variable {m : Mnemonic} {i : Instr}

/-- An instruction that combines A and its operand byte into A and the flags (R105 to R109). -/
theorem exec_accumulate {f : Byte → Byte → Flags → Alu} (henc : Encodes m i)
    (hhandler : handlerOf m = accumulate f) (hj : m ≠ .JMP) (hacc : i.operand ≠ .acc) (s : State) {r : Byte} {p : Flags}
    (hresult : f s.a (operandRead i s).1 s.p = ⟨r, p⟩) :
    exec i s = .next { (operandRead i s).2 with
      a := r, p := p, pc := nextPc i s, cycles := nextCycles i s } := by
  rw [exec_encodes henc hj, hhandler, accumulate, loadOperand_eq_operandRead hacc]
  simp only [operandRead_a, operandRead_p, hresult]
  rfl

/-- AND, ORA and EOR: a bitwise operation into A, with Z and N of its result (R107 to R109). -/
theorem exec_logic {op : Byte → Byte → Byte} (henc : Encodes m i)
    (hhandler : handlerOf m = accumulate fun a b p => plainResult (op a b) p) (hj : m ≠ .JMP)
    (hacc : i.operand ≠ .acc) (s : State) :
    let res := op s.a (operandRead i s).1
    exec i s = .next { (operandRead i s).2 with
      a := res, p := withZN res s.p, pc := nextPc i s, cycles := nextCycles i s } :=
  exec_accumulate henc hhandler hj hacc s (plainResult_eq _ s.p)

/-- An instruction that computes flags from its operand byte and a register, one that the operand's read leaves alone (R110 to
R113). -/
theorem exec_test {get : State → Byte} {f : Byte → Byte → Flags → Flags} (henc : Encodes m i)
    (hhandler : handlerOf m = testWith get f) (hj : m ≠ .JMP) (hacc : i.operand ≠ .acc) {s : State} {r : Byte} {p : Flags}
    (hget : get { (operandRead i s).2 with pc := nextPc i s, cycles := nextCycles i s } = r)
    (hflags : f r (operandRead i s).1 s.p = p) :
    exec i s = .next { (operandRead i s).2 with p := p, pc := nextPc i s, cycles := nextCycles i s } := by
  subst hget hflags
  rw [exec_encodes henc hj, hhandler, testWith, loadOperand_eq_operandRead hacc]
  simp only [operandRead_p]
  rfl

end

/-- Settles O19: ADC combines A with the operand byte, and its result is the sum with its flags. -/
theorem adcAddsWithCarry : Obligations.AdcAddsWithCarry := by
  unfold Obligations.AdcAddsWithCarry
  intro i s henc
  exact ⟨exec_accumulate henc rfl (by decide) (henc.operand_ne (by decide)) s (adcResult_eq s.a _ s.p),
    operandRead_onlyReadEffects i s⟩

/-- Settles O20: SBC combines A with the operand byte, and its result is the difference with its flags. -/
theorem sbcSubtractsWithBorrow : Obligations.SbcSubtractsWithBorrow := by
  unfold Obligations.SbcSubtractsWithBorrow
  intro i s henc
  exact ⟨exec_accumulate henc rfl (by decide) (henc.operand_ne (by decide)) s (sbcResult_eq s.a _ s.p),
    operandRead_onlyReadEffects i s⟩

/-- Settles O21: three instructions combine A with the operand byte, BIT only tests it. -/
theorem logicResults : Obligations.LogicResults := by
  unfold Obligations.LogicResults
  intro i s
  refine ⟨fun hand => ?and, fun hora => ?ora, fun heor => ?eor, fun hbit => ?bit, operandRead_onlyReadEffects i s⟩
  case and => exact exec_logic (op := (· &&& ·)) hand rfl (by decide) (hand.operand_ne (by decide)) s
  case ora => exact exec_logic (op := (· ||| ·)) hora rfl (by decide) (hora.operand_ne (by decide)) s
  case eor => exact exec_logic (op := (· ^^^ ·)) heor rfl (by decide) (heor.operand_ne (by decide)) s
  case bit =>
    exact exec_test hbit handleBit_eq_testWith (by decide) (hbit.operand_ne (by decide)) (operandRead_a i s)
      (bitFlags_eq s.a _ s.p)

/-- Settles O22: the three compares are one handler with three registers, none of which the operand's read changes. -/
theorem comparesSetFlags : Obligations.ComparesSetFlags := by
  unfold Obligations.ComparesSetFlags
  intro i s r h
  refine ⟨?_, operandRead_onlyReadEffects i s⟩
  obtain ⟨hcmp, rfl⟩ | ⟨hcpx, rfl⟩ | ⟨hcpy, rfl⟩ := h
  · exact exec_test hcmp (compareWith_eq_testWith State.a) (by decide) (hcmp.operand_ne (by decide))
      (operandRead_a i s) (compareFlags_eq s.a _ s.p)
  · exact exec_test hcpx (compareWith_eq_testWith State.x) (by decide) (hcpx.operand_ne (by decide))
      (operandRead_x i s) (compareFlags_eq s.x _ s.p)
  · exact exec_test hcpy (compareWith_eq_testWith State.y) (by decide) (hcpy.operand_ne (by decide))
      (operandRead_y i s) (compareFlags_eq s.y _ s.p)

/-! ### Increments of a register -/

/-- An implied instruction that computes on one register takes one byte and 2 cycles (R116 to R119). -/
theorem exec_modifyRegister {m : Mnemonic} {i : Instr} {get : State → Byte} {set : Byte → State → State}
    {f : Byte → Flags → Alu} (henc : Encodes m i) (himp : i.operand = .imp)
    (hhandler : handlerOf m = modifyRegister get set f) (hcycles : i.descriptor.cycles = 2) {s : State} {r : Byte}
    {p : Flags} :
    let u := { s with pc := s.pc + 1, cycles := s.cycles + 2 }
    f (get u) s.p = ⟨r, p⟩ → exec i s = .next ((set r u).setP p) := by
  intro u hresult
  rw [exec_implied henc himp, hcycles, hhandler, modifyRegister, hresult]

/-- Settles O23: the four are one handler with two registers and two results. -/
theorem registerStepsWrap : Obligations.RegisterStepsWrap := by
  unfold Obligations.RegisterStepsWrap
  intro s up down u
  refine ⟨rfl, ?inx, ?iny, ?dex, ?dey⟩
  case inx =>
    exact exec_modifyRegister (m := .INX) (set := State.setX) (by decide) rfl rfl rfl (incResult_eq s.x s.p)
  case iny =>
    exact exec_modifyRegister (m := .INY) (set := State.setY) (by decide) rfl rfl rfl (incResult_eq s.y s.p)
  case dex =>
    exact exec_modifyRegister (m := .DEX) (set := State.setX) (by decide) rfl rfl rfl (decResult_eq s.x s.p)
  case dey =>
    exact exec_modifyRegister (m := .DEY) (set := State.setY) (by decide) rfl rfl rfl (decResult_eq s.y s.p)

/-! ### Read-modify-writes, at every address and on the accumulator -/

/-- An instruction in accumulator mode has one byte and takes 2 cycles (R72). -/
theorem next_of_accumulator {i : Instr} (hacc : i.operand = .acc) (s : State) :
    nextPc i s = s.pc + 1 ∧ nextCycles i s = s.cycles + 2 := by
  obtain rfl | rfl | rfl | rfl := operand_acc i hacc <;> exact ⟨rfl, rfl⟩

/-- In accumulator mode the handler reads and writes A (R120 to R123). -/
theorem modify_acc (f : Byte → Flags → Alu) (addr : Word) (s : State) :
    modify f .acc addr s = { s with a := (f s.a s.p).value, p := (f s.a s.p).flags } := rfl

theorem exec_modify_accumulator {m : Mnemonic} {i : Instr} (henc : Encodes m i) (hacc : i.operand = .acc) {s : State}
    {r : Byte} {p : Flags} (h : modifiedByte m s.a s.p = some (r, p)) :
    exec i s = .next { s with a := r, p := p, pc := s.pc + 1, cycles := s.cycles + 2 } := by
  obtain ⟨⟨f, hf, hresult⟩, -⟩ := handlerOf_modify h
  have hj : m ≠ .JMP := by rintro rfl; cases h
  obtain ⟨hpc, hcycles⟩ := next_of_accumulator hacc s
  rw [exec_encodes henc hj, hf, hacc, modify_acc, hpc, hcycles, hresult]

/-- Settles O24: on memory the read does not depend on `PC` and the cycles, so it is the same before and after they advance. -/
theorem modifiesReadThenWrite : Obligations.ModifiesReadThenWrite := by
  unfold Obligations.ModifiesReadThenWrite
  intro i s m r p henc addr read
  refine ⟨fun hmemory h => ⟨?_, memRead_frame addr s⟩, fun hacc h => exec_modify_accumulator henc hacc h⟩
  have hread := memRead_pc_cycles addr s (nextPc i s) (nextCycles i s)
  rw [exec_modify henc hmemory (by rw [hread]; exact h), hread]
  rfl

end Sys2Proof.Machine
end

section
/-! Branches, jumps, subroutines and the software break (R124 to R137): each runs its mnemonic's handler with `PC` past the
instruction and its cycles counted, and the stack's bytes are read back at the offsets they were pushed to. -/

namespace Sys2Proof.Machine

/-! ### Branches -/

/-- A branch mnemonic's handler is `branch` on its rule's condition, and its Encoding line has 2 cycles (R125 to R132). -/
theorem handlerOf_branch {m : Mnemonic} {p : Flags} {taken : Bool} (h : branchTaken m p = some taken) :
    handlerOf m = branch (fun q => (branchTaken m q).getD false) ∧ ∀ e ∈ ruleEncodings m, e.cycles = 2 := by
  cases m
  case BCC | BCS | BEQ | BNE | BMI | BPL | BVC | BVS => exact ⟨rfl, by decide⟩
  all_goals cases h

/-- An instruction with a relative operand has two bytes, and no page cycles (R83). -/
theorem next_of_relative {i : Instr} {b : Byte} (hrel : i.operand = .rel b) (s : State) :
    nextPc i s = s.pc + 2 ∧ nextCycles i s = s.cycles + i.descriptor.cycles := by
  have hlength : (encode i).length = i.operand.bytes.length + 1 := rfl
  constructor
  · rw [nextPc, hlength, hrel]
    rfl
  · rw [nextCycles, hrel]
    rfl

/-- A taken branch goes to its target for 1 cycle more, or 2 when the target is on another page (R124). -/
theorem branch_eq (cond : Flags → Bool) (o : Operand) (target : Word) (s : State) :
    branch cond o target s =
      if cond s.p = true then
        { s with
          pc := target, cycles := s.cycles + if target.toNat / 256 = s.pc.toNat / 256 then 1 else 2 }
      else s := by
  have hcost : 1 + bit (pageCrossed s.pc target) = if target.toNat / 256 = s.pc.toNat / 256 then 1 else 2 := by
    rw [pageCrossed_eq, bit]
    by_cases hpage : target.toNat / 256 = s.pc.toNat / 256
    · simp [hpage]
    · simp [hpage, Ne.symm hpage]
  rw [branch, hcost]
  rfl

/-- Settles O26: the eight are one handler with eight conditions, and the target is the signed sum of R83. -/
theorem branchesTakeTheirCondition : Obligations.BranchesTakeTheirCondition := by
  unfold Obligations.BranchesTakeTheirCondition
  intro i s m b taken henc hrel htaken next target
  obtain ⟨hhandler, hline⟩ := handlerOf_branch htaken
  have hj : m ≠ .JMP := by rintro rfl; cases htaken
  have hcycles : i.descriptor.cycles = 2 := hline _ henc
  have htarget : (resolve (.rel b) s).addr = target := relTarget_eq_ofInt s.pc b
  obtain ⟨hnext, hcount⟩ := next_of_relative hrel s
  rw [exec_encodes henc hj, hhandler, hnext, hcount, hcycles, hrel, htarget, branch_eq, htaken]
  dsimp only [Option.getD_some]
  by_cases hpage : target.toNat / 256 = next.toNat / 256
  · simp only [next, hpage, if_true]
  · simp only [next, hpage, if_false]

/-! ### Jumps -/

/-- A high byte and a low byte under the masks of R6 are one word. -/
theorem masked_or_eq_wordOf (u v : Word) : (u &&& 0xFF00) ||| (v &&& 0x00FF) = wordOf (hi u) (lo v) := by
  have hu : u &&& 0xFF00 = hi u ++ (0 : Byte) := by
    rw [← wordOf_hi_lo u, hi_wordOf, wordOf, show (0xFF00 : Word) = BitVec.allOnes 8 ++ (0 : Byte) from rfl,
      BitVec.and_append, BitVec.and_allOnes]
    exact congrArg (_ ++ ·) BitVec.and_zero
  have hv : v &&& 0x00FF = (0 : Byte) ++ lo v := by
    rw [← wordOf_hi_lo v, lo_wordOf, wordOf, show (0x00FF : Word) = (0 : Byte) ++ BitVec.allOnes 8 from rfl,
      BitVec.and_append, BitVec.and_allOnes]
    exact congrArg (· ++ _) BitVec.and_zero
  rw [hu, hv, BitVec.or_append]
  exact congrArg₂ (· ++ ·) BitVec.or_zero BitVec.zero_or

theorem lo_add_one (w : Word) : lo (w + 1) = lo w + 1 := by
  apply BitVec.eq_of_toNat_eq
  rw [lo_toNat, BitVec.toNat_add, BitVec.toNat_add, lo_toNat]
  simp only [BitVec.ofNat_eq_ofNat, BitVec.toNat_ofNat]
  omega

/-- The second address of an indirect pointer stays in the page of the first (R37). -/
theorem wordOf_hi_lo_add_one (w : Word) : wordOf (hi w) (lo w + 1) = (w &&& 0xFF00) ||| ((w + 1) &&& 0x00FF) := by
  rw [masked_or_eq_wordOf, lo_add_one]

/-- One read after another has only a read's effects. -/
theorem OnlyReadEffects.trans {s t u : State} (hst : OnlyReadEffects s t) (htu : OnlyReadEffects t u) :
    OnlyReadEffects s u := by
  obtain ⟨ht, hvram, hpalette, hoam⟩ := hst
  obtain ⟨hu, hvram', hpalette', hoam'⟩ := htu
  refine ⟨?_, hvram'.trans hvram, hpalette'.trans hpalette, hoam'.trans hoam⟩
  rw [hu, ht]

theorem exec_jmpAbs (w : Word) (s : State) : exec (.jmpAbs w) s = .next { s with pc := w, cycles := s.cycles + 3 } :=
  rfl

/-- The indirect jump is the two reads of R37, then `PC` and 5 cycles (R133). -/
theorem exec_jmpInd (w : Word) (s : State) :
    let r := memReadBug16 w s
    exec (.jmpInd w) s = .next { r.2 with pc := r.1, cycles := r.2.cycles + 5 } := rfl

/-- Settles O27: the indirect form's two reads are at R37's addresses, and each has only a read's effects. -/
theorem jumpsSetPc : Obligations.JumpsSetPc := by
  unfold Obligations.JumpsSetPc
  intro s w low high
  have hreads : memReadBug16 w s = (high.1 ++ low.1, high.2) := by
    rw [memReadBug16, wordOf_hi_lo_add_one]
    rfl
  have heffects : OnlyReadEffects s high.2 := OnlyReadEffects.trans (memRead_frame w s) (memRead_frame _ low.2)
  have hcycles : high.2.cycles = s.cycles := by rw [heffects.1]
  refine ⟨rfl, rfl, exec_jmpAbs w s, ?_, heffects⟩
  rw [exec_jmpInd, hreads, hcycles]

/-! ### Bytes on the stack -/

theorem stackOffset_inj {sp sp' : Byte} : stackOffset sp = stackOffset sp' ↔ sp = sp' := by
  rw [stackOffset, stackOffset, Nat.add_left_cancel_iff, BitVec.toNat_inj]

/-- Two stack pointers that differ by 1 or 2 designate different offsets, also where the page wraps (R11). -/
theorem stackOffset_distinct (sp : Byte) :
    stackOffset (sp - 1) ≠ stackOffset sp ∧ stackOffset (sp - 2) ≠ stackOffset sp ∧
      stackOffset (sp - 2) ≠ stackOffset (sp - 1) := by
  simp only [ne_eq, stackOffset_inj]
  exact ⟨by bv_omega, by bv_omega, by bv_omega⟩

/-- The bytes of a memory after a 16-bit push (R48). -/
theorem read_push16 {m : Memory} (hwf : m.wf = true) (sp h l : Byte) (k : Nat) :
    ((m.write (stackOffset sp) h).write (stackOffset (sp - 1)) l).read k =
      if k = stackOffset sp then h else if k = stackOffset (sp - 1) then l else m.read k := by
  rw [Memory.read_write (Memory.wf_write hwf _ _), Memory.read_write hwf]
  obtain ⟨hne, -, -⟩ := stackOffset_distinct sp
  by_cases hk : k = stackOffset sp
  · rw [if_neg (hk ▸ hne.symm)]
    simp only [hk, if_true]
  · simp only [hk, if_false]

/-- The bytes of a memory after a 16-bit push and one more byte: an exception's three (R136, R153). -/
theorem read_pushException {m : Memory} (hwf : m.wf = true) (sp h l d : Byte) (k : Nat) :
    (((m.write (stackOffset sp) h).write (stackOffset (sp - 1)) l).write (stackOffset (sp - 2)) d).read k =
      if k = stackOffset sp then h
      else if k = stackOffset (sp - 1) then l
      else if k = stackOffset (sp - 2) then d
      else m.read k := by
  rw [Memory.read_write (Memory.wf_write (Memory.wf_write hwf _ _) _ _), read_push16 hwf]
  obtain ⟨-, hstatus_high, hstatus_low⟩ := stackOffset_distinct sp
  by_cases hk : k = stackOffset (sp - 2)
  · simp only [hk, hstatus_high, hstatus_low, if_true, if_false]
  · simp only [hk, if_false]

/-! ### Subroutines -/

/-- JSR pushes the address of its last byte, then jumps (R134). -/
theorem exec_jsr (w : Word) (s : State) :
    exec (.jsr w) s = .next { s with
      ram := (s.ram.write (stackOffset s.sp) (hi (s.pc + 2))).write (stackOffset (s.sp - 1)) (lo (s.pc + 2))
      sp := s.sp - 2, pc := w, cycles := s.cycles + 6 } := by
  have hlast : s.pc + 3 - 1 = s.pc + 2 := by bv_omega
  have hexec : exec (.jsr w) s =
      .next (handleJsr (.abs w) w { s with pc := s.pc + 3, cycles := s.cycles + 6 }) := rfl
  rw [hexec, handleJsr, push16_eq, hlast]
  rfl

/-- Settles O28: a 16-bit push of the address of JSR's last byte. -/
theorem jsrPushesReturnAddress : Obligations.JsrPushesReturnAddress := by
  unfold Obligations.JsrPushesReturnAddress
  intro s w hwf
  exact ⟨rfl, _, exec_jsr w s, rfl, read_push16 hwf s.sp (hi (s.pc + 2)) (lo (s.pc + 2))⟩

theorem exec_rts (s : State) :
    exec .rts s = .next { s with
      pc := wordOf (s.ram.read (stackOffset (s.sp + 2))) (s.ram.read (stackOffset (s.sp + 1))) + 1
      sp := s.sp + 2, cycles := s.cycles + 6 } := by
  rw [exec_implied (m := .RTS) (by decide) rfl, handlerOf, handleRts, pop16_eq]
  rfl

/-- Settles O29: a 16-bit pop, and one more. -/
theorem rtsReturns : Obligations.RtsReturns := by
  unfold Obligations.RtsReturns
  exact fun s => ⟨rfl, exec_rts s⟩

/-- Settles O30: the two bytes RTS pops are those JSR pushed. -/
theorem jsrThenRtsReturns : Obligations.JsrThenRtsReturns := by
  unfold Obligations.JsrThenRtsReturns
  intro s t w hwf hjsr
  obtain ⟨-, t', hjsr', ht, hbytes⟩ := jsrPushesReturnAddress s w hwf
  obtain rfl : t' = t := Host.Outcome.next.inj (hjsr'.symm.trans hjsr)
  have hsp : t'.sp = s.sp - 2 := by rw [ht]
  have hlow : t'.sp + 1 = s.sp - 1 := by rw [hsp]; bv_omega
  have hhigh : t'.sp + 2 = s.sp := by rw [hsp]; bv_omega
  obtain ⟨hlow_high, -, -⟩ := stackOffset_distinct s.sp
  have hret : wordOf (t'.ram.read (stackOffset (t'.sp + 2))) (t'.ram.read (stackOffset (t'.sp + 1))) = s.pc + 2 := by
    rw [hhigh, hbytes, if_pos rfl, hlow, hbytes, if_neg hlow_high, if_pos rfl]
    exact wordOf_hi_lo _
  refine ⟨_, exec_rts t', ?_, hhigh⟩
  change wordOf _ _ + 1 = s.pc + 3
  rw [hret, BitVec.add_assoc]
  rfl

/-! ### The software break and the return from it -/

/-- The break's vector lies in program ROM, so what it holds depends on the cartridge only (R38, R59). -/
theorem vectorAt_irq (s : State) :
    vectorAt 0xFFFE 0xFFFF s = wordOf (mapperRead s.cart 0xFFFF) (mapperRead s.cart 0xFFFE) := by
  rw [vectorAt, memRead_mapper (by decide), memRead_mapper (by decide)]
  rfl

/-- BRK is an exception that returns to opAddr + 2 with B pushed as 1, whatever I holds (R136). -/
theorem exec_brk (s : State) :
    exec .brk s = .next (takeException (s.pc + 2) (Flags.toByte { s.p with b := true }) 0xFFFE
      { s with pc := s.pc + 1, cycles := s.cycles + 7 }) := by
  have hret : s.pc + 1 + 1 = s.pc + 2 := by rw [BitVec.add_assoc]; rfl
  obtain ⟨-, hstatus, -⟩ := toByte_forced s.p
  rw [exec_implied (m := .BRK) (by decide) rfl, handlerOf, handleBrk, hstatus, hret]
  rfl

/-- Settles O31: the exception's three bytes, and its vector in program ROM. -/
theorem brkTakesException : Obligations.BrkTakesException := by
  unfold Obligations.BrkTakesException
  intro s hwf
  refine ⟨rfl, _, exec_brk s, ?_⟩
  rw [takeException_eq _ _ (by decide) (by decide), vectorAt_irq]
  exact ⟨rfl, rfl, read_pushException hwf s.sp _ _ _⟩

/-- RTI pops the flags, then `PC` (R137). -/
theorem exec_rti (s : State) :
    exec .rti s = .next { s with
      p := Flags.fromByte (s.ram.read (stackOffset (s.sp + 1)))
      pc := wordOf (s.ram.read (stackOffset (s.sp + 3))) (s.ram.read (stackOffset (s.sp + 2)))
      sp := s.sp + 3, cycles := s.cycles + 6 } := by
  rw [exec_implied (m := .RTI) (by decide) rfl, handlerOf, handleRti, returnFromException_eq]
  rfl

/-- Settles O32: the flags read from the popped byte have it as their status byte. -/
theorem rtiRestores : Obligations.RtiRestores := by
  unfold Obligations.RtiRestores
  intro s
  exact ⟨rfl, _, exec_rti s, by rw [← toByte_toNat, toByte_fromByte]⟩

/-- Settles O33: the three bytes RTI pops are those BRK pushed. -/
theorem brkThenRtiReturns : Obligations.BrkThenRtiReturns := by
  unfold Obligations.BrkThenRtiReturns
  intro s t hwf hbrk
  obtain ⟨-, t', hbrk', -, ht, hbytes⟩ := brkTakesException s hwf
  obtain rfl : t' = t := Host.Outcome.next.inj (hbrk'.symm.trans hbrk)
  have hsp : t'.sp = s.sp - 3 := by rw [ht]
  have hstatus : t'.sp + 1 = s.sp - 2 := by rw [hsp]; bv_omega
  have hlow : t'.sp + 2 = s.sp - 1 := by rw [hsp]; bv_omega
  have hhigh : t'.sp + 3 = s.sp := by rw [hsp]; bv_omega
  obtain ⟨hlow_high, hstatus_high, hstatus_low⟩ := stackOffset_distinct s.sp
  have hret : wordOf (t'.ram.read (stackOffset (t'.sp + 3))) (t'.ram.read (stackOffset (t'.sp + 2))) = s.pc + 2 := by
    rw [hhigh, hbytes, if_pos rfl, hlow, hbytes, if_neg hlow_high, if_pos rfl]
    exact wordOf_hi_lo _
  have hflags : Flags.fromByte (t'.ram.read (stackOffset (t'.sp + 1))) = { s.p with b := true } := by
    rw [hstatus, hbytes, if_neg hstatus_high, if_neg hstatus_low, if_pos rfl, fromByte_toByte]
  exact ⟨_, exec_rti t', hret, hhigh, hflags, by rw [ht], by rw [ht], by rw [ht]⟩

end Sys2Proof.Machine
end

section
/-! The flag instructions, NOP and the illegal opcodes (R139 to R147): a flag instruction is one update of `P`, and an illegal opcode's
whole effect beside the advance of `PC` and the cycles is its policy's. -/

namespace Sys2Proof.Machine

/-! ### The flag instructions and NOP -/

/-- Settles O34: each handler is one update of `P`, NOP's is none, after the advance of an instruction without operand. -/
theorem flagInstructions : Obligations.FlagInstructions := by
  unfold Obligations.FlagInstructions
  intro s u
  refine ⟨rfl, ?clc, ?sec, ?cli, ?sei, ?cld, ?sed, ?clv, ?nop⟩
  case clc => exact exec_implied (m := .CLC) (by decide) rfl s
  case sec => exact exec_implied (m := .SEC) (by decide) rfl s
  case cli => exact exec_implied (m := .CLI) (by decide) rfl s
  case sei => exact exec_implied (m := .SEI) (by decide) rfl s
  case cld => exact exec_implied (m := .CLD) (by decide) rfl s
  case sed => exact exec_implied (m := .SED) (by decide) rfl s
  case clv => exact exec_implied (m := .CLV) (by decide) rfl s
  case nop => exact exec_implied (m := .NOP) (by decide) rfl s

/-! ### The illegal opcodes -/

/-- Under `fault` the record is latched, unless one is there already (R17, R147). -/
theorem executeIllegal_fault {s : State} (h : s.cfg.illegalPolicy = .fault) (op : Byte) (opAddr : Word) :
    executeIllegal op opAddr s = { s with fault := some (s.fault.getD (.illegalOpcode op opAddr)) } := by
  have hlatch (r : FaultRecord) : (s.fault <|> some r) = some (s.fault.getD r) := by
    rw [Option.orElse_eq_orElse, Option.orElse_eq_or, Option.or_some]
  rw [executeIllegal, h, ← hlatch]
  rfl

/-- Under `nop` one diagnostic event is appended (R147). -/
theorem executeIllegal_nop {s : State} (h : s.cfg.illegalPolicy = .nop) (op : Byte) (opAddr : Word) :
    executeIllegal op opAddr s = { s with diag := s.diag ++ [.illegalOpcodeNop op opAddr] } := by
  rw [executeIllegal, h]
  rfl

/-- An illegal instruction is its policy, with `PC` past the instruction and its cycles counted (R69, R147). -/
theorem exec_illegal_eq {i : Instr} (hi : i.isIllegal = true) (s : State) :
    exec i s = .next (executeIllegal i.code.opcode s.pc { s with pc := nextPc i s, cycles := nextCycles i s }) := by
  rw [exec_policy i s hi, tableCycles, ← Nat.add_assoc]
  rfl

/-- Settles O35: each policy is one update of the state after the advance. -/
theorem illegalOpcodesFollowPolicy : Obligations.IllegalOpcodesFollowPolicy := by
  unfold Obligations.IllegalOpcodesFollowPolicy
  intro i s hi u
  rw [exec_illegal_eq hi]
  constructor
  · intro hfault
    rw [executeIllegal_fault (s := u) hfault]
  · intro hnop
    rw [executeIllegal_nop (s := u) hnop]

end Sys2Proof.Machine
end

section
/-! Interrupts and frames (R151 to R154, R186, R187): the slot's sample, the masked request, the entry of a serviced
request, and that every console step takes a cycle, so a frame's bound on its steps is never reached before its quota. -/

namespace Sys2Proof.Machine

/-! ### The slot -/

/-- A full slot takes no sample (R154). -/
theorem sampleIrq_pending_full {s : State} {k : Interrupt} (h : s.pending = some k) :
    (sampleIrq s).pending = some k := by
  simp only [sampleIrq, h, Option.isNone_some, Bool.and_false, Bool.false_eq_true, if_false, State.setIrqInput_pending]

/-- An empty slot takes the sample (R151). -/
theorem sampleIrq_pending_empty {s : State} (h : s.pending = none) :
    (sampleIrq s).pending = if s.irqInput.head? = some true then some .irq else none := by
  simp only [sampleIrq, State.setIrqInput_pending, h, Option.isNone_none, Bool.and_true]
  rcases s.irqInput with _ | ⟨_ | _, rest⟩
  · exact h
  · exact h
  · rfl

/-- Settles O39: a masked IRQ is not serviceable, `retain` discards nothing, and the sample looks at the slot first. -/
theorem maskedRequestsFollowPolicy : Obligations.MaskedRequestsFollowPolicy := by
  unfold Obligations.MaskedRequestsFollowPolicy
  intro s
  refine ⟨fun hmask hirq => ⟨?masked, fun hretain => ?retain, fun hdrop => ?drop⟩, fun k => sampleIrq_pending_full,
    sampleIrq_pending_empty⟩
  case masked => rw [hirq, hmask]; rfl
  case retain => exact if_neg fun ⟨_, _, hdrop⟩ => by rw [hretain] at hdrop; cases hdrop
  case drop => exact if_pos ⟨hirq, hmask, hdrop⟩

/-! ### The entry of a serviced request -/

/-- Both vectors lie in program ROM, so what they hold depends on the cartridge only (R16, R38, R59). -/
theorem Interrupt.vector_mem (k : Interrupt) : 0x6000 ≤ k.vector.toNat ∧ k.vector.toNat < 0xFFFF := by
  cases k <;> decide

theorem vectorAt_interrupt (k : Interrupt) (s : State) :
    vectorAt k.vector (k.vector + 1) s = wordOf (mapperRead s.cart (k.vector + 1)) (mapperRead s.cart k.vector) := by
  cases k with
  | nmi =>
    rw [vectorAt, memRead_mapper (by decide), memRead_mapper (by decide)]
    rfl
  | irq => exact vectorAt_irq s

/-- Servicing a request is an exception that returns to `PC` with B pushed as 0 (R153). -/
theorem serviceInterrupt_eq (k : Interrupt) (s : State) :
    serviceInterrupt k s = { s with
      ram := ((s.ram.write (stackOffset s.sp) (hi s.pc)).write (stackOffset (s.sp - 1)) (lo s.pc)).write
        (stackOffset (s.sp - 2)) (Flags.toByte { s.p with b := false })
      sp := s.sp - 3
      p := { s.p with i := true }
      pc := wordOf (mapperRead s.cart (k.vector + 1)) (mapperRead s.cart k.vector)
      cycles := s.cycles + 7
      pending := none } := by
  obtain ⟨-, -, hstatus⟩ := toByte_forced s.p
  obtain ⟨hlow, hhigh⟩ := k.vector_mem
  rw [serviceInterrupt, hstatus, takeException_eq _ _ hlow hhigh]
  rfl

/-- A request that I does not mask is serviceable (R152). -/
theorem serviceable_unmasked {k : Interrupt} {i : Bool} (h : k = .irq → i = false) :
    serviceable (some k) i = some k := by
  cases k with
  | nmi => rfl
  | irq => rw [h rfl]; rfl

/-- A step that services a request takes 7 cycles, so 21 dots (R153, R186). -/
theorem step_of_serviceable {s : State} {k : Interrupt} (hfault : s.fault = none)
    (h : serviceable (sampleIrq s).pending (sampleIrq s).p.i = some k) :
    step s = .next (ppuRun 21 (serviceInterrupt k (sampleIrq s))) := by
  have hcycles : (serviceInterrupt k (sampleIrq s)).cycles - s.cycles = 7 := by
    rw [serviceInterrupt_eq, sampleIrq_eq]
    exact Nat.add_sub_cancel_left s.cycles 7
  simp only [step, hfault, cpuStep, h, runDots, hcycles]

/-- After the IRQ sample, the entry has the effects of R153 on the state before it, less one sample. -/
theorem serviceInterrupt_entry (k : Interrupt) {s : State} (hwf : s.ram.wf = true) :
    EntryEffects { s with irqInput := s.irqInput.tail } (serviceInterrupt k (sampleIrq s)) s.pc
      (Flags.toByte { s.p with b := false }) (vectorAt k.vector (k.vector + 1) s) := by
  rw [vectorAt_interrupt, serviceInterrupt_eq, sampleIrq_eq]
  exact ⟨rfl, read_pushException hwf s.sp _ _ _⟩

/-- Settles O38: an unmasked request is serviceable, and the step that services it is its entry and 21 dots. -/
theorem interruptsAreServiced : Obligations.InterruptsAreServiced := by
  unfold Obligations.InterruptsAreServiced
  intro s k hfault hpending hwf hmask
  have hp : (sampleIrq s).p = s.p := by rw [sampleIrq_eq]
  have hserviceable : serviceable (sampleIrq s).pending (sampleIrq s).p.i = some k := by
    rw [hpending, hp, serviceable_unmasked hmask]
  refine ⟨_, step_of_serviceable hfault hserviceable, by rw [serviceInterrupt_eq], ?_⟩
  have hentry := serviceInterrupt_entry k hwf
  cases k with
  | nmi => exact hentry
  | irq => exact hentry

/-! ### Every step takes a cycle -/

theorem push_cycles (d : Byte) (s : State) : (push d s).cycles = s.cycles := by rw [push_eq]

theorem loadOperand_cycles (o : Operand) (addr : Word) (s : State) : (loadOperand o addr s).2.cycles = s.cycles := by
  unfold loadOperand
  split
  · rfl
  · rfl
  · exact memRead_cycles addr s

theorem storeOperand_cycles (o : Operand) (addr : Word) (r : Byte) (s : State) :
    s.cycles ≤ (storeOperand o addr r s).cycles := by
  unfold storeOperand
  split
  · exact Nat.le_refl _
  · exact (memWrite_frame addr r s).2

theorem memReadPair_cycles (low high : Word) (s : State) : (memReadPair low high s).2.cycles = s.cycles := by
  simp only [memReadPair, memRead_cycles]

theorem branch_cycles (cond : Flags → Bool) (o : Operand) (target : Word) (s : State) :
    s.cycles ≤ (branch cond o target s).cycles := by
  unfold branch
  split
  · exact Nat.le_add_right _ _
  · exact Nat.le_refl _

/-- No handler lowers the cycle counter: its accesses add cycles or leave them (R69, R86). -/
theorem handler_cycles (m : Mnemonic) (o : Operand) (addr : Word) (s : State) :
    s.cycles ≤ (handlerOf m o addr s).cycles := by
  cases m
  case LDA | LDX | LDY | ADC | SBC | AND | ORA | EOR | CMP | CPX | CPY | BIT =>
    exact (loadOperand_cycles o addr s).ge
  case STA | STX | STY => exact (memWrite_frame addr _ s).2
  case INC | DEC | ASL | LSR | ROL | ROR =>
    exact (loadOperand_cycles o addr s).ge.trans (storeOperand_cycles o addr _ _)
  case PHA | PHP => exact (push_cycles _ s).ge
  case PLA | PLP =>
    dsimp only [handlerOf, handlePla, handlePlp]
    rw [pop_eq]
    exact Nat.le_refl _
  case BCC | BCS | BEQ | BNE | BMI | BPL | BVC | BVS => exact branch_cycles _ o addr s
  case JSR =>
    dsimp only [handlerOf, handleJsr]
    rw [push16_eq]
    exact Nat.le_refl _
  case RTS =>
    dsimp only [handlerOf, handleRts]
    rw [pop16_eq]
    exact Nat.le_refl _
  case BRK =>
    dsimp only [handlerOf, handleBrk]
    rw [takeException_eq _ _ (by decide) (by decide)]
  case RTI =>
    dsimp only [handlerOf, handleRti]
    rw [returnFromException_eq]
  all_goals exact Nat.le_refl _

theorem resolve_cycles (o : Operand) (s : State) : (resolve o s).st.cycles = s.cycles := by
  cases o
  case izx | izy | ind => exact memReadPair_cycles _ _ s
  all_goals rfl

/-- The common part of an instruction takes its table entry's cycles, which are 2 or more (R65, R69). -/
theorem startInstr_cycles (op : Byte) (o : Operand) (s : State) : s.cycles < (startInstr op o s).st.cycles := by
  obtain ⟨-, -, htwo, -⟩ := tableTimingByMode op
  have hstart : (startInstr op o s).st.cycles =
      (resolve o s).st.cycles + tableCycles (lookup op) (resolve o s).crossed := rfl
  rw [hstart, resolve_cycles, tableCycles]
  omega

theorem executeIllegal_cycles (op : Byte) (addr : Word) (s : State) : (executeIllegal op addr s).cycles = s.cycles := by
  unfold executeIllegal
  split <;> rfl

/-- Every instruction takes at least one cycle (R85). -/
theorem exec_cycles {i : Instr} {s t : State} (e : exec i s = .next t) : s.cycles < t.cycles := by
  have hstart := startInstr_cycles i.code.opcode i.operand s
  cases hi : i.isIllegal with
  | false =>
    rw [exec_documented i s hi, documented] at e
    cases e
    exact hstart.trans_le (handler_cycles _ _ _ _)
  | true =>
    rw [exec_illegal i s hi, illegal] at e
    cases e
    rwa [executeIllegal_cycles]

theorem fetch_cycles (s : State) : (fetch s).2.cycles = s.cycles := by
  unfold fetch
  dsimp only
  split
  · exact memRead_cycles _ s
  · dsimp only
    split <;> simp only [memRead_cycles]
  · simp only [memRead16, memReadPair_cycles, memRead_cycles]

/-- Every console step takes at least one cycle, an interrupt's 7 or an instruction's (R153, R186). -/
theorem step_cycles {s t : State} (e : step s = .next t) : s.cycles < t.cycles := by
  obtain ⟨-, u, hu, rfl⟩ := step_cases e
  rw [ppuRun_cycles]
  obtain ⟨k, -, rfl⟩ | ⟨-, hexec⟩ := hu
  · rw [serviceInterrupt_eq, sampleIrq_eq]
    exact Nat.lt_add_of_pos_right (by decide)
  · have hbefore : (dropMasked (sampleIrq s)).cycles = s.cycles := by rw [dropMasked_sampleIrq_eq]
    rw [← hbefore, ← fetch_cycles]
    exact exec_cycles hexec

/-- A frame's loop that has a step for every cycle to its target stops at the target or at a fault (R187). -/
theorem frameLoop_reaches {target fuel : Nat} {s t : State} (hfuel : target ≤ s.cycles + fuel)
    (e : frameLoop target fuel s = .next t) : target ≤ t.cycles ∨ t.fault ≠ none := by
  induction fuel generalizing s with
  | zero =>
    cases e
    exact .inl hfuel
  | succ fuel ih =>
    rw [frameLoop] at e
    split at e
    · split at e
      · next u hstep =>
        have hcycles := step_cycles hstep
        exact ih (by omega) e
      · cases e
      · cases e
    · next hstop =>
      cases e
      by_cases hfault : t.fault = none
      · exact .inl (Nat.not_lt.mp fun hlt => hstop ⟨hlt, hfault⟩)
      · exact .inr hfault

/-- Settles O60: the bound has one step for each cycle of the quota, and no step takes less than one. -/
theorem frameStepReachesQuota : Obligations.FrameStepReachesQuota := by
  unfold Obligations.FrameStepReachesQuota
  exact fun s t => frameLoop_reaches (Nat.le_refl _)

end Sys2Proof.Machine
end

section
/-! The PPU's registers, read and written at every mirror (R160 to R171), and the bits of `t` and `v` as number fields:
a write that merges a byte into a register keeps the fields its mask keeps and replaces the others. -/

namespace Sys2Proof.Machine

/-! ### Bit fields of a register -/

/-- The `len` bits of a register from bit `lo` on, as a number (`x[lo+len-1:lo]`, R6). -/
def fieldNat {w : Nat} (x : BitVec w) (lo len : Nat) : Nat := x.toNat / 2 ^ lo % 2 ^ len

section
variable {w lo len : Nat} {x m f : BitVec w}

theorem fieldNat_or : fieldNat (x ||| f) lo len = fieldNat x lo len ||| fieldNat f lo len := by
  simp only [fieldNat, BitVec.toNat_or, Nat.or_div_two_pow, Nat.or_mod_two_pow]

theorem fieldNat_and : fieldNat (x &&& m) lo len = fieldNat x lo len &&& fieldNat m lo len := by
  simp only [fieldNat, BitVec.toNat_and, Nat.and_div_two_pow, Nat.and_mod_two_pow]

theorem fieldNat_xor : fieldNat (x ^^^ f) lo len = fieldNat x lo len ^^^ fieldNat f lo len := by
  simp only [fieldNat, BitVec.toNat_xor, Nat.xor_div_two_pow, Nat.xor_mod_two_pow]

/-- A field inside the mask. -/
theorem fieldNat_and_ones (hm : fieldNat m lo len = 2 ^ len - 1) : fieldNat (x &&& m) lo len = fieldNat x lo len := by
  rw [fieldNat_and, hm, Nat.and_two_pow_sub_one_eq_mod, fieldNat, Nat.mod_mod]

/-- A field outside the mask. -/
theorem fieldNat_and_zero (hm : fieldNat m lo len = 0) : fieldNat (x &&& m) lo len = 0 := by
  rw [fieldNat_and, hm, Nat.and_zero]

theorem fieldNat_or_left (hf : fieldNat f lo len = 0) : fieldNat (x ||| f) lo len = fieldNat x lo len := by
  rw [fieldNat_or, hf, Nat.or_zero]

theorem fieldNat_or_right (hx : fieldNat x lo len = 0) : fieldNat (x ||| f) lo len = fieldNat f lo len := by
  rw [fieldNat_or, hx, Nat.zero_or]

/-- Merging `f` into the bits that a mask clears keeps a field inside the mask. -/
theorem fieldNat_merge_kept (hm : fieldNat m lo len = 2 ^ len - 1) (hf : fieldNat f lo len = 0) :
    fieldNat (x &&& m ||| f) lo len = fieldNat x lo len := by
  rw [fieldNat_or_left hf, fieldNat_and_ones hm]

/-- Merging `f` into the bits that a mask clears puts `f`'s field there. -/
theorem fieldNat_merge_new (hm : fieldNat m lo len = 0) : fieldNat (x &&& m ||| f) lo len = fieldNat f lo len :=
  fieldNat_or_right (fieldNat_and_zero hm)

/-- Toggling bits outside a field keeps it. -/
theorem fieldNat_xor_zero (hf : fieldNat f lo len = 0) : fieldNat (x ^^^ f) lo len = fieldNat x lo len := by
  rw [fieldNat_xor, hf, Nat.xor_zero]

/-- Toggling a single bit adds 1 to it modulo 2. -/
theorem fieldNat_xor_one (hf : fieldNat f lo 1 = 1) : fieldNat (x ^^^ f) lo 1 = (fieldNat x lo 1 + 1) % 2 := by
  rw [fieldNat_xor, hf, fieldNat, Nat.pow_one]
  obtain h | h := Nat.mod_two_eq_zero_or_one (x.toNat / 2 ^ lo) <;> rw [h] <;> rfl

end

/-- The low bits of a byte under a mask of ones. -/
theorem byte_mask_toNat (d : Byte) {n : Nat} (hn : n ≤ 8) :
    (d &&& BitVec.ofNat 8 (2 ^ n - 1)).toNat = d.toNat % 2 ^ n := by
  have hmask : 2 ^ n - 1 < 2 ^ 8 :=
    (Nat.sub_lt (Nat.two_pow_pos n) Nat.one_pos).trans_le (Nat.pow_le_pow_right (by decide) hn)
  rw [BitVec.toNat_and, BitVec.toNat_ofNat, Nat.mod_eq_of_lt hmask, Nat.and_two_pow_sub_one_eq_mod]

theorem coarse_toNat (d : Byte) : (d >>> 3).toNat = d.toNat / 8 := by
  rw [BitVec.toNat_ushiftRight, Nat.shiftRight_eq_div_pow]

theorem getLsbD_eq_decide (d : Byte) (n : Nat) : d.getLsbD n = decide (d.toNat / 2 ^ n % 2 = 1) :=
  Nat.testBit_eq_decide_div_mod_eq

/-- A byte's bits placed from bit `n` of a 15-bit register on, while they fit. -/
theorem field15_toNat {b : Byte} {n : Nat} (h : b.toNat * 2 ^ n < 2 ^ 15) : (field15 b n).toNat = b.toNat * 2 ^ n := by
  have hb : b.toNat < 2 ^ 15 := Nat.lt_of_lt_of_le b.isLt (by decide)
  rw [field15, BitVec.toNat_shiftLeft, BitVec.toNat_setWidth, Nat.mod_eq_of_lt hb, Nat.shiftLeft_eq, Nat.mod_eq_of_lt h]

/-! ### The writes of `t` -/

/-- PPUCTRL's nametable bits into `t` (R162). -/
theorem ctrl_t_toNat (t : BitVec 15) (d : Byte) :
    (t &&& 0x73FF ||| field15 (d &&& 0x03) 10).toNat =
      t.toNat % 1024 + 1024 * (d.toNat % 4) + 4096 * (t.toNat / 4096) := by
  have hd : (d &&& 0x03).toNat = d.toNat % 4 := byte_mask_toNat d (n := 2) (by decide)
  have hf : (field15 (d &&& 0x03) 10).toNat = (d &&& 0x03).toNat * 2 ^ 10 := field15_toNat (by omega)
  generalize field15 (d &&& 0x03) 10 = f at hf ⊢
  have hlow : fieldNat (t &&& 0x73FF ||| f) 0 10 = fieldNat t 0 10 :=
    fieldNat_merge_kept rfl (by simp only [fieldNat]; omega)
  have hnew : fieldNat (t &&& 0x73FF ||| f) 10 2 = fieldNat f 10 2 := fieldNat_merge_new rfl
  have hhigh : fieldNat (t &&& 0x73FF ||| f) 12 3 = fieldNat t 12 3 :=
    fieldNat_merge_kept rfl (by simp only [fieldNat]; omega)
  simp only [fieldNat, Nat.reducePow, Nat.div_one] at hlow hnew hhigh
  omega

/-- PPUSCROLL's first write: coarse X into `t` (R167). -/
theorem scrollX_t_toNat (t : BitVec 15) (d : Byte) :
    (t &&& (0x7FE0 : BitVec 15) ||| field15 (d >>> 3) 0).toNat = d.toNat / 8 + 32 * (t.toNat / 32) := by
  have hd := coarse_toNat d
  have hf : (field15 (d >>> 3) 0).toNat = (d >>> 3).toNat * 2 ^ 0 := field15_toNat (by omega)
  generalize field15 (d >>> 3) 0 = f at hf ⊢
  have hnew : fieldNat (t &&& (0x7FE0 : BitVec 15) ||| f) 0 5 = fieldNat f 0 5 := fieldNat_merge_new rfl
  have hkept : fieldNat (t &&& (0x7FE0 : BitVec 15) ||| f) 5 10 = fieldNat t 5 10 :=
    fieldNat_merge_kept rfl (by simp only [fieldNat]; omega)
  simp only [fieldNat, Nat.reducePow, Nat.div_one] at hnew hkept
  omega

/-- `t` and `v` are their coarse X, coarse Y, nametable and fine Y (R18). -/
theorem scrollFields_sum (r : BitVec 15) :
    r.toNat = fieldNat r 0 5 + 32 * fieldNat r 5 5 + 1024 * fieldNat r 10 2 + 4096 * fieldNat r 12 3 := by
  have hcoarse := Nat.div_div_eq_div_mul r.toNat 32 32
  have hnametable := Nat.div_div_eq_div_mul r.toNat 1024 4
  simp only [fieldNat, Nat.reducePow, Nat.div_one]
  omega

/-- PPUSCROLL's second write: fine Y and coarse Y into `t` (R167). -/
theorem scrollY_t_toNat (t : BitVec 15) (d : Byte) :
    (t &&& (0x0C1F : BitVec 15) ||| field15 (d &&& 0x07) 12 ||| field15 (d >>> 3) 5).toNat =
      t.toNat % 32 + 32 * (d.toNat / 8) + 1024 * (t.toNat / 1024 % 4) + 4096 * (d.toNat % 8) := by
  have hd : (d &&& 0x07).toNat = d.toNat % 8 := byte_mask_toNat d (n := 3) (by decide)
  have hd' := coarse_toNat d
  have hfine : (field15 (d &&& 0x07) 12).toNat = (d &&& 0x07).toNat * 2 ^ 12 := field15_toNat (by omega)
  have hcoarse : (field15 (d >>> 3) 5).toNat = (d >>> 3).toNat * 2 ^ 5 := field15_toNat (by omega)
  generalize field15 (d &&& 0x07) 12 = f at hfine ⊢
  generalize field15 (d >>> 3) 5 = c at hcoarse ⊢
  have hx : fieldNat (t &&& (0x0C1F : BitVec 15) ||| f ||| c) 0 5 = fieldNat t 0 5 := by
    rw [fieldNat_or_left (by simp only [fieldNat]; omega), fieldNat_merge_kept rfl (by simp only [fieldNat]; omega)]
  have hy : fieldNat (t &&& (0x0C1F : BitVec 15) ||| f ||| c) 5 5 = fieldNat c 5 5 := by
    rw [fieldNat_or_right (by rw [fieldNat_merge_new rfl]; simp only [fieldNat]; omega)]
  have hnt : fieldNat (t &&& (0x0C1F : BitVec 15) ||| f ||| c) 10 2 = fieldNat t 10 2 := by
    rw [fieldNat_or_left (by simp only [fieldNat]; omega), fieldNat_merge_kept rfl (by simp only [fieldNat]; omega)]
  have hfineY : fieldNat (t &&& (0x0C1F : BitVec 15) ||| f ||| c) 12 3 = fieldNat f 12 3 := by
    rw [fieldNat_or_left (by simp only [fieldNat]; omega), fieldNat_merge_new rfl]
  rw [scrollFields_sum, hx, hy, hnt, hfineY]
  simp only [fieldNat, Nat.reducePow, Nat.div_one]
  omega

/-- PPUADDR's first write: bits 13 to 8 of `t`, and bit 14 cleared (R168). -/
theorem addrHigh_t_eq (t : BitVec 15) (d : Byte) :
    t &&& 0x00FF ||| field15 (d &&& 0x3F) 8 = BitVec.ofNat 15 (t.toNat % 256 + 256 * (d.toNat % 64)) := by
  have hd : (d &&& 0x3F).toNat = d.toNat % 64 := byte_mask_toNat d (n := 6) (by decide)
  have hf : (field15 (d &&& 0x3F) 8).toNat = (d &&& 0x3F).toNat * 2 ^ 8 := field15_toNat (by omega)
  generalize field15 (d &&& 0x3F) 8 = f at hf ⊢
  have hkept : fieldNat (t &&& 0x00FF ||| f) 0 8 = fieldNat t 0 8 :=
    fieldNat_merge_kept rfl (by simp only [fieldNat]; omega)
  have hnew : fieldNat (t &&& 0x00FF ||| f) 8 7 = fieldNat f 8 7 := fieldNat_merge_new rfl
  simp only [fieldNat, Nat.reducePow, Nat.div_one] at hkept hnew
  apply BitVec.eq_of_toNat_eq
  rw [BitVec.toNat_ofNat]
  omega

/-- PPUADDR's second write: bits 7 to 0 of `t` (R168). -/
theorem addrLow_t_eq (t : BitVec 15) (d : Byte) :
    t &&& 0x7F00 ||| field15 d 0 = BitVec.ofNat 15 (256 * (t.toNat / 256) + d.toNat) := by
  have hf : (field15 d 0).toNat = d.toNat * 2 ^ 0 := field15_toNat (by omega)
  generalize field15 d 0 = f at hf ⊢
  have hnew : fieldNat (t &&& 0x7F00 ||| f) 0 8 = fieldNat f 0 8 := fieldNat_merge_new rfl
  have hkept : fieldNat (t &&& 0x7F00 ||| f) 8 7 = fieldNat t 8 7 :=
    fieldNat_merge_kept rfl (by simp only [fieldNat]; omega)
  simp only [fieldNat, Nat.reducePow, Nat.div_one] at hkept hnew
  apply BitVec.eq_of_toNat_eq
  rw [BitVec.toNat_ofNat]
  omega

/-! ### The registers at their mirrors -/

/-- A read at any mirror is the register's read (R33, R160). -/
theorem memRead_selected {a : Word} {sel : Nat} (h : selectsPpu a sel) (s : State) :
    memRead a s = ppuRegRead (PpuReg.ofSel (BitVec.ofNat 3 sel)) s := by
  obtain ⟨hlow, hhigh, hmod⟩ := h
  exact (ppuWindow hlow hhigh hmod).1 s

/-- A write at any mirror is the register's write (R33, R160). -/
theorem memWrite_selected {a : Word} {sel : Nat} (h : selectsPpu a sel) (d : Byte) (s : State) :
    memWrite a d s = ppuRegWrite (PpuReg.ofSel (BitVec.ofNat 3 sel)) d s := by
  obtain ⟨hlow, hhigh, hmod⟩ := h
  exact (ppuWindow hlow hhigh hmod).2 d s

/-- Three flags in a byte's bits 7 to 5 over a byte's low five bits. -/
theorem statusBits_toNat (b7 b6 b5 : Bool) (latch : Byte) :
    (byteOfBits b7 b6 b5 false false false false false ||| (latch &&& 0x1F)).toNat =
      128 * flagNat b7 + 64 * flagNat b6 + 32 * flagNat b5 + latch.toNat % 32 := by
  revert b7 b6 b5 latch
  decide +kernel

/-- Clearing `vblank` lowers the edge detector's input, so it arms nothing (R164, R172). -/
theorem afterStatusRead_eq (delay : Nat) (p : Ppu) :
    p.afterStatusRead delay = { p with nmiOccurred := false, w := false, nmiPrevious := false } := by
  simp only [Ppu.afterStatusRead, Ppu.nmiChange, Bool.and_false, Bool.false_and, Bool.false_eq_true, if_false]

/-- Settles O40: the three flags and the latch in one byte, then the two flags cleared. -/
theorem statusReadClearsVblank : Obligations.StatusReadClearsVblank := by
  unfold Obligations.StatusReadClearsVblank
  intro s a hsel
  have hread : memRead a s = (s.ppu.statusByte, s.setPpu (s.ppu.afterStatusRead s.cfg.nmiDelay)) :=
    memRead_selected hsel s
  rw [hread, afterStatusRead_eq]
  exact ⟨statusBits_toNat _ _ _ _, rfl⟩

/-- Settles O41: the byte's bits, `t` as a number, and the edge detector's one case. -/
theorem controlWriteSetsFieldsAndArms : Obligations.ControlWriteSetsFieldsAndArms := by
  unfold Obligations.ControlWriteSetsFieldsAndArms
  intro s a d hsel bit nmi
  refine ⟨_, ?_, ctrl_t_toNat s.ppu.t d⟩
  rw [memWrite_selected hsel]
  change s.setPpu (Ppu.writeCtrl _ _ _) = _
  simp only [Ppu.writeCtrl, Ppu.nmiChange, getLsbD_eq_decide, Bool.and_eq_true, Bool.not_eq_true', bit, nmi]
  rfl

/-- The fine X of a PPUSCROLL write (R167). -/
theorem fineX_eq (d : Byte) : (d &&& 0x07).setWidth 3 = BitVec.ofNat 3 (d.toNat % 8) := by
  have hd : (d &&& 0x07).toNat = d.toNat % 8 := byte_mask_toNat d (n := 3) (by decide)
  rw [← hd, BitVec.ofNat_toNat]

/-- Settles O42: the two writes by the toggle. -/
theorem scrollWritesSetT : Obligations.ScrollWritesSetT := by
  unfold Obligations.ScrollWritesSetT
  intro s a d hsel
  have hwrite : memWrite a d s = s.setPpu (Ppu.writeScroll d { s.ppu with regLatch := d }) :=
    memWrite_selected hsel d s
  rw [hwrite]
  cases hw : s.ppu.w with
  | false =>
    refine ⟨_, fun _ => ⟨?_, scrollX_t_toNat s.ppu.t d⟩, Bool.noConfusion⟩
    simp only [Ppu.writeScroll, hw, Bool.false_eq_true, if_false, fineX_eq]
    rfl
  | true =>
    refine ⟨_, Bool.noConfusion, fun _ => ⟨?_, scrollY_t_toNat s.ppu.t d⟩⟩
    simp only [Ppu.writeScroll, hw, if_true]
    rfl

/-- Settles O43: the two writes by the toggle. -/
theorem addressWritesSetTAndV : Obligations.AddressWritesSetTAndV := by
  unfold Obligations.AddressWritesSetTAndV
  intro s a d hsel high low
  have hwrite : memWrite a d s = s.setPpu (Ppu.writeAddr d { s.ppu with regLatch := d }) := memWrite_selected hsel d s
  rw [hwrite]
  constructor
  · intro hw
    simp only [Ppu.writeAddr, hw, Bool.false_eq_true, if_false, addrHigh_t_eq]
    rfl
  · intro hw
    simp only [Ppu.writeAddr, hw, if_true, addrLow_t_eq]
    rfl

/-- Settles O44: each write is one update of the PPU after the latch's. -/
theorem plainPpuRegisterWrites : Obligations.PlainPpuRegisterWrites := by
  unfold Obligations.PlainPpuRegisterWrites
  intro s a d bit p
  refine ⟨fun hmask => ?mask, fun hstatus => memWrite_selected hstatus d s, fun haddr => memWrite_selected haddr d s⟩
  rw [memWrite_selected hmask]
  change s.setPpu (Ppu.writeMask _ _) = _
  simp only [Ppu.writeMask, getLsbD_eq_decide]
  rfl

/-- Settles O45: an access at `oamAddr`, and a write's step of it. -/
theorem oamDataAccess : Obligations.OamDataAccess := by
  unfold Obligations.OamDataAccess
  intro s a d hsel hwf
  refine ⟨memRead_selected hsel s, _, ?_, Memory.read_write hwf _ d⟩
  have hnext : s.ppu.oamAddr + 1 = BitVec.ofNat 8 (s.ppu.oamAddr.toNat + 1) := by bv_omega
  rw [memWrite_selected hsel, ← hnext]
  rfl

/-! ### PPUDATA -/

theorem ppuByte_nametable {addr : Nat} (h : 0x2000 ≤ addr) (h' : addr < 0x3F00) (s : State) :
    ppuByte s addr = s.ppu.vram.read (nametableIndex s.cart.mirror addr) := by
  rw [ppuByte, if_neg (Nat.not_lt.mpr h), if_pos h']

theorem ppuByte_palette {addr : Nat} (h : 0x3F00 ≤ addr) (s : State) :
    ppuByte s addr = s.ppu.palette.read (paletteEntry addr) := by
  rw [ppuByte, if_neg (by omega), if_neg (Nat.not_lt.mpr h)]

/-- The access is below the palette (R169). -/
theorem dataAddress_lt (p : Ppu) : p.dataAddress < 0x3F00 ↔ p.v.toNat % 0x4000 < 0x3F00 := by
  rw [BitVec.lt_def, dataAddress_toNat]
  rfl

/-- The byte at the data address (R18, R47). -/
theorem ppuRead_dataAddress (s : State) : ppuRead s s.ppu.dataAddress = ppuByte s (s.ppu.v.toNat % 0x4000) := by
  rw [ppuRead_eq, dataAddress_toNat, Nat.mod_mod]

/-- Below a palette access's address, 0x1000 lower, lies the nametable byte that the buffer takes (R169). -/
theorem ppuRead_below_palette {s : State} (h : 0x3F00 ≤ s.ppu.v.toNat % 0x4000) :
    ppuRead s (s.ppu.dataAddress - 0x1000) =
      s.ppu.vram.read (nametableIndex s.cart.mirror (s.ppu.v.toNat % 0x4000 - 0x1000)) := by
  have hbelow : (s.ppu.dataAddress - 0x1000).toNat = s.ppu.v.toNat % 0x4000 - 0x1000 := by
    rw [← dataAddress_toNat] at h ⊢
    bv_omega
  rw [ppuRead_eq, hbelow, Nat.mod_eq_of_lt (by omega), ppuByte_nametable (by omega) (by omega)]

/-- The increment of `v` after an access, as a number (R169, R170). -/
theorem stepV_eq (p : Ppu) :
    p.stepV = { p with v := BitVec.ofNat 15 (p.v.toNat + if p.ctrl.incr32 = true then 32 else 1) } := by
  rw [Ppu.stepV, BitVec.ofNat_add, BitVec.ofNat_toNat, BitVec.setWidth_eq]
  split <;> rfl

/-- Settles O46: what the read gives and what the buffer takes, by the region of `v`. -/
theorem dataReadIsBuffered : Obligations.DataReadIsBuffered := by
  unfold Obligations.DataReadIsBuffered
  intro s a hsel addr step after
  have hread : memRead a s = (ppuDataByte s, after (ppuDataBuffer s)) := by
    rw [memRead_selected hsel]
    exact Prod.ext rfl (congrArg s.setPpu (stepV_eq { s.ppu with readBuffer := ppuDataBuffer s }))
  rw [hread, ppuDataByte, ppuDataBuffer]
  constructor
  · intro h
    have hlt := (dataAddress_lt s.ppu).mpr h
    rw [if_pos hlt, if_pos hlt, ppuRead_dataAddress]
  · intro h
    have hge : ¬ s.ppu.dataAddress < 0x3F00 := fun hlt => absurd ((dataAddress_lt s.ppu).mp hlt) (Nat.not_lt.mpr h)
    rw [if_neg hge, if_neg hge, ppuRead_dataAddress, ppuByte_palette h, ppuRead_below_palette h]

section
variable {a : Word} (d : Byte) (s : State)

/-- A write below 0x2000 is for character memory (R40, R47). -/
theorem ppuWrite_chr (h : a.toNat % 0x4000 < 0x2000) :
    ppuWrite a d s = s.setCart (chrWrite (a.toNat % 0x4000) d s.cart) := by
  simp only [ppuWrite, ppuTranslate_mod, if_pos h]

/-- A write from 0x2000 to 0x3EFF is for `vram` (R44, R47). -/
theorem ppuWrite_nametable (h : 0x2000 ≤ a.toNat % 0x4000) (h' : a.toNat % 0x4000 < 0x3F00) :
    ppuWrite a d s = s.setPpu { s.ppu with
      vram := s.ppu.vram.write (nametableIndex s.cart.mirror (a.toNat % 0x4000)) d } := by
  simp only [ppuWrite, ppuTranslate_mod, if_neg (Nat.not_lt.mpr h), if_pos h']

/-- A write from 0x3F00 on is for the palette (R46, R47). -/
theorem ppuWrite_palette (h : 0x3F00 ≤ a.toNat % 0x4000) :
    ppuWrite a d s = s.setPpu { s.ppu with
      palette := s.ppu.palette.write (paletteEntry (a.toNat % 0x4000)) d } := by
  have hchr : ¬ a.toNat % 0x4000 < 0x2000 := by omega
  simp only [ppuWrite, ppuTranslate_mod, if_neg hchr, if_neg (Nat.not_lt.mpr h)]

/-- A PPU write stores the byte in one of three memories, by the address's region, unless that is character ROM (R47). -/
theorem ppuWrite_stores (a : Word) (hvram : s.ppu.vram.wf = true) (hpalette : s.ppu.palette.wf = true)
    (hchr : s.cart.chr.wf = true) :
    let addr := a.toNat % 0x4000
    ∃ chr vram palette, ppuWrite a d s =
        { s with ppu := { s.ppu with vram := vram, palette := palette }, cart := { s.cart with chr := chr } } ∧
      (if addr < 0x2000 ∧ s.cart.chrPages = 0 then StoredAt s.cart.chr chr addr d else chr = s.cart.chr) ∧
      (if 0x2000 ≤ addr ∧ addr < 0x3F00 then StoredAt s.ppu.vram vram (nametableIndex s.cart.mirror addr) d
        else vram = s.ppu.vram) ∧
      (if 0x3F00 ≤ addr then StoredAt s.ppu.palette palette (paletteEntry addr) d else palette = s.ppu.palette) := by
  intro addr
  by_cases hlow : addr < 0x2000
  · have hnotNametable : ¬ (0x2000 ≤ addr ∧ addr < 0x3F00) := by omega
    have hnotPalette : ¬ 0x3F00 ≤ addr := by omega
    rw [ppuWrite_chr d s hlow, chrWrite]
    by_cases hram : s.cart.chrPages = 0
    · rw [if_pos hram]
      exact ⟨_, _, _, rfl, (if_pos ⟨hlow, hram⟩).mpr (Memory.read_write hchr addr d),
        (if_neg hnotNametable).mpr rfl, (if_neg hnotPalette).mpr rfl⟩
    · rw [if_neg hram]
      exact ⟨_, _, _, rfl, (if_neg fun h => hram h.2).mpr rfl, (if_neg hnotNametable).mpr rfl,
        (if_neg hnotPalette).mpr rfl⟩
  · have hnotChr : ¬ (addr < 0x2000 ∧ s.cart.chrPages = 0) := fun h => hlow h.1
    rw [Nat.not_lt] at hlow
    by_cases hmid : addr < 0x3F00
    · rw [ppuWrite_nametable d s hlow hmid]
      exact ⟨_, _, _, rfl, (if_neg hnotChr).mpr rfl, (if_pos ⟨hlow, hmid⟩).mpr (Memory.read_write hvram _ d),
        (if_neg (Nat.not_le.mpr hmid)).mpr rfl⟩
    · have hhigh := Nat.not_lt.mp hmid
      rw [ppuWrite_palette d s hhigh]
      exact ⟨_, _, _, rfl, (if_neg hnotChr).mpr rfl, (if_neg fun h => hmid h.2).mpr rfl,
        (if_pos hhigh).mpr (Memory.read_write hpalette _ d)⟩

end

/-- Settles O48: the PPU write at the data address, then the step of `v`. -/
theorem dataWriteStoresAtOnce : Obligations.DataWriteStoresAtOnce := by
  unfold Obligations.DataWriteStoresAtOnce
  intro s a d hsel hvram hpalette hchr addr step entry index
  let u : State := s.setPpu { s.ppu with regLatch := d }
  have haddr : u.ppu.dataAddress.toNat % 0x4000 = addr := by rw [dataAddress_toNat, Nat.mod_mod]; rfl
  obtain ⟨chr, vram, palette, hstored, hchr', hvram', hpalette'⟩ :=
    ppuWrite_stores d u u.ppu.dataAddress hvram hpalette hchr
  rw [haddr] at hchr' hvram' hpalette'
  have hwrite : memWrite a d s = (ppuWrite u.ppu.dataAddress d u).setPpu (ppuWrite u.ppu.dataAddress d u).ppu.stepV :=
    memWrite_selected hsel d s
  refine ⟨_, rfl, ?_⟩
  rw [hwrite, hstored, stepV_eq]
  exact ⟨rfl, hchr', hvram', hpalette'⟩

end Sys2Proof.Machine
end

section
/-! OAM DMA (R184): its bus reads leave every memory but OAM, and `oamAddr`, alone; from a page of plain memory they
change nothing, so the copy is 256 writes of OAM, at 256 different offsets. -/

namespace Sys2Proof.Machine

/-! ### What the copy leaves alone -/

/-- No PPU register read changes `oamAddr` (R164 to R171). -/
theorem ppuRegRead_oamAddr (r : PpuReg) (s : State) : (ppuRegRead r s).2.ppu.oamAddr = s.ppu.oamAddr := by
  cases r <;> rfl

@[simp] theorem memRead_oamAddr (a : Word) (s : State) : (memRead a s).2.ppu.oamAddr = s.ppu.oamAddr := by
  unfold memRead
  dsimp only
  cases (cpuTranslate a).subsystem
  case ppuReg => exact ppuRegRead_oamAddr _ s
  all_goals rfl

/-- The copy stores into OAM only, and at a fixed `oamAddr` (R184). -/
theorem dmaCopy_ppu (d : Byte) (n i : Nat) (s : State) :
    (dmaCopy d n i s).ppu.vram = s.ppu.vram ∧ (dmaCopy d n i s).ppu.palette = s.ppu.palette ∧
      (dmaCopy d n i s).ppu.oamAddr = s.ppu.oamAddr := by
  induction n generalizing i s with
  | zero => exact ⟨rfl, rfl, rfl⟩
  | succ n ih =>
    simp only [dmaCopy, ih, State.setPpu_ppu, memRead_vram, memRead_palette, memRead_oamAddr, and_self]

/-! ### A page of plain memory -/

theorem isPlain_of_ram {a : Word} (h : a.toNat < 0x2000) : isPlain a = true := by
  rw [isPlain, cpuTranslate_ram h]
  rfl

theorem isPlain_of_mapper {a : Word} (h : 0x6000 ≤ a.toNat) : isPlain a = true := by
  rw [isPlain, cpuTranslate_mapper h]
  rfl

/-- Every byte of a page below 0x20 or from 0x60 on is plain memory (R33). -/
theorem isPlain_page {d : Byte} (h : d.toNat < 0x20 ∨ 0x60 ≤ d.toNat) (k : Byte) : isPlain (wordOf d k) = true := by
  have haddr := wordOf_toNat d k
  obtain h | h := h
  · exact isPlain_of_ram (by omega)
  · exact isPlain_of_mapper (by omega)

/-- A plain byte is work RAM's or the cartridge's, so no change of the PPU changes it. -/
theorem memRead_plain_setPpu {a : Word} (h : isPlain a = true) (s : State) (p : Ppu) :
    (memRead a (s.setPpu p)).1 = (memRead a s).1 := by
  rw [isPlain, Bool.or_eq_true, beq_iff_eq, beq_iff_eq] at h
  obtain hram | hmapper := h
  · simp only [memRead, hram, State.setPpu_ram]
  · simp only [memRead, hmapper, State.setPpu_cart]

/-- A memory of 256 bytes after the bytes `i` to `i + n - 1` of a page are stored from an index on, in 8 bits (R184). -/
def storePage (page : Byte → Byte) (start : Byte) : Nat → Nat → Memory → Memory
  | 0, _, m => m
  | n + 1, i, m =>
    storePage page start n (i + 1) (m.write (start + BitVec.ofNat 8 i).toNat (page (BitVec.ofNat 8 i)))

/-- From a plain page the copy is its stores. -/
theorem dmaCopy_plain {d : Byte} (hpage : ∀ k, isPlain (wordOf d k) = true) (n i : Nat) (s : State) :
    dmaCopy d n i s = s.setPpu { s.ppu with
      oam := storePage (fun k => (memRead (wordOf d k) s).1) s.ppu.oamAddr n i s.ppu.oam } := by
  induction n generalizing i s with
  | zero => rfl
  | succ n ih =>
    simp only [dmaCopy, memRead_plain_st (hpage _), ih, memRead_plain_setPpu (hpage _)]
    rfl

/-- The bytes of a stored page: up to 256 of them have different indices, so none overwrites another. -/
theorem read_storePage (page : Byte → Byte) (start : Byte) {n i : Nat} {m : Memory} (hwf : m.wf = true)
    (h : i + n ≤ 256) (k : Byte) :
    (storePage page start n i m).read (start + k).toNat =
      if i ≤ k.toNat ∧ k.toNat < i + n then page k else m.read (start + k).toNat := by
  induction n generalizing i m with
  | zero => exact (if_neg (by omega)).symm
  | succ n ih =>
    have hindex : (start + k).toNat = (start + BitVec.ofNat 8 i).toNat ↔ k.toNat = i := by
      rw [BitVec.toNat_inj, BitVec.add_right_inj, ← BitVec.toNat_inj, BitVec.toNat_ofNat, Nat.mod_eq_of_lt (by omega)]
    rw [storePage, ih (Memory.wf_write hwf _ _) (by omega), Memory.read_write hwf]
    by_cases hk : k.toNat = i
    · have hki : BitVec.ofNat 8 i = k := by rw [← hk, BitVec.ofNat_toNat, BitVec.setWidth_eq]
      rw [if_neg (by omega), if_pos (hindex.mpr hk), if_pos (by omega), hki]
    · rw [if_neg (hk ∘ hindex.mp)]
      by_cases hin : i ≤ k.toNat ∧ k.toNat < i + (n + 1)
      · rw [if_pos hin, if_pos (by omega)]
      · rw [if_neg hin, if_neg (by omega)]

/-- Settles O49: the copy's frame, its cycles, and the stores of a plain page. -/
theorem oamDmaCopiesPage : Obligations.OamDmaCopiesPage := by
  unfold Obligations.OamDmaCopiesPage
  intro s d hwf
  have hwrite : memWrite 0x4014 d s = oamDma d s := rfl
  have hcycles : (dmaCopy d 256 0 s).cycles = s.cycles := by rw [dmaCopy_frame]
  have hdma : oamDma d s = { dmaCopy d 256 0 s with cycles := s.cycles + 513 + s.cycles % 2 } := by
    rw [oamDma, State.addCycles, hcycles, Nat.add_assoc]
  obtain ⟨hvram, hpalette, hoamAddr⟩ := dmaCopy_ppu d 256 0 s
  refine ⟨_, hwrite, ?frame, ?vram, ?palette, ?oamAddr, fun hd => ⟨?plain, fun k hk => ?bytes⟩⟩
  case frame => rw [hdma, dmaCopy_frame]
  case vram => rw [hdma]; exact hvram
  case palette => rw [hdma]; exact hpalette
  case oamAddr => rw [hdma]; exact hoamAddr
  case plain =>
    rw [hdma, dmaCopy_plain (isPlain_page hd)]
    generalize storePage _ _ 256 0 _ = oam
    rfl
  case bytes =>
    have hpage := read_storePage (fun k => (memRead (wordOf d k) s).1) s.ppu.oamAddr (n := 256) (i := 0) hwf (by omega)
      (BitVec.ofNat 8 k)
    have hindex : (BitVec.ofNat 8 k).toNat = k := by rw [BitVec.toNat_ofNat, Nat.mod_eq_of_lt hk]
    have haddr : wordOf d (BitVec.ofNat 8 k) = BitVec.ofNat 16 (256 * d.toNat + k) := by
      rw [wordOf_eq_ofNat, hindex, Nat.add_comm]
    rw [if_pos (by omega), BitVec.toNat_add, hindex, haddr] at hpage
    rw [hdma, dmaCopy_plain (isPlain_page hd)]
    generalize storePage _ _ 256 0 _ = oam at hpage ⊢
    exact hpage

end Sys2Proof.Machine
end

section
/-! The dot sequencer's timing (R172 to R176, R182): where a dot arrives, the vertical-blank events there, the NMI's
delay, and the frame. -/

namespace Sys2Proof.Machine

/-! ### Arriving at a dot -/

/-- Before its events a dot changes the delay, which counts down, and the counters (R173, R175). -/
theorem arrive_eq (skip : Bool) (p : Ppu) :
    p.arrive skip = { p with
      nmiDelay := p.nmiDelay - 1
      dot := (p.arrive skip).dot, scanline := (p.arrive skip).scanline
      frame := (p.arrive skip).frame, oddFrame := (p.arrive skip).oddFrame } := by
  unfold Ppu.arrive
  rw [advance_frame]

/-- After its vertical-blank events a dot has changed the status flags, the edge detector, the counters and the slot. -/
theorem afterVblank_frame (s : State) :
    afterVblank s = { s with
      ppu := { s.ppu with
        nmiOccurred := (afterVblank s).ppu.nmiOccurred
        sprite0Hit := (afterVblank s).ppu.sprite0Hit, spriteOverflow := (afterVblank s).ppu.spriteOverflow
        nmiPrevious := (afterVblank s).ppu.nmiPrevious, nmiDelay := (afterVblank s).ppu.nmiDelay
        dot := (ppuStep s).ppu.dot, scanline := (ppuStep s).ppu.scanline
        frame := (ppuStep s).ppu.frame, oddFrame := (ppuStep s).ppu.oddFrame }
      pending := (afterVblank s).pending } := by
  obtain ⟨hdot, hline, hframe, hodd⟩ := ppuStep_counters s
  rw [hdot, hline, hframe, hodd, afterVblank, vblankEvents_frame, arrive_eq]

/-! ### The vertical-blank events -/

theorem isAt_iff (line dot : Nat) (p : Ppu) : p.isAt line dot = true ↔ p.scanline = line ∧ p.dot = dot := by
  rw [Ppu.isAt, Bool.and_eq_true, decide_eq_true_eq, decide_eq_true_eq]

section
variable (delay : Nat) {p : Ppu}

theorem vblankEvents_start (h : p.scanline = 241 ∧ p.dot = 1) :
    p.vblankEvents delay = Ppu.nmiChange delay { p with nmiOccurred := true } :=
  if_pos ((isAt_iff 241 1 p).mpr h)

theorem vblankEvents_end (h : p.scanline = 261 ∧ p.dot = 1) :
    p.vblankEvents delay =
      { Ppu.nmiChange delay { p with nmiOccurred := false } with sprite0Hit := false, spriteOverflow := false } := by
  have hstart : ¬ p.isAt 241 1 = true := by rw [isAt_iff]; omega
  rw [Ppu.vblankEvents, if_neg hstart, if_pos ((isAt_iff 261 1 p).mpr h)]

theorem vblankEvents_other (hstart : ¬ (p.scanline = 241 ∧ p.dot = 1)) (hend : ¬ (p.scanline = 261 ∧ p.dot = 1)) :
    p.vblankEvents delay = p := by
  rw [← isAt_iff] at hstart hend
  rw [Ppu.vblankEvents, if_neg hstart, if_neg hend]

end

section
variable {s : State}

/-- Arriving at (241,1): `vblank` is set, and the edge detector runs (R176). -/
theorem afterVblank_start (h : (ppuStep s).ppu.scanline = 241 ∧ (ppuStep s).ppu.dot = 1) :
    (afterVblank s).ppu = Ppu.nmiChange s.cfg.nmiDelay
      { s.ppu.arrive s.cfg.oddSkipRequiresRendering with nmiOccurred := true } := by
  obtain ⟨hdot, hline, -, -⟩ := ppuStep_counters s
  exact vblankEvents_start _ (by rwa [hdot, hline] at h)

/-- Arriving at (261,1): `vblank` and the sprite flags are cleared, and the edge detector runs (R176). -/
theorem afterVblank_end (h : (ppuStep s).ppu.scanline = 261 ∧ (ppuStep s).ppu.dot = 1) :
    (afterVblank s).ppu = { Ppu.nmiChange s.cfg.nmiDelay
      { s.ppu.arrive s.cfg.oddSkipRequiresRendering with nmiOccurred := false } with
        sprite0Hit := false, spriteOverflow := false } := by
  obtain ⟨hdot, hline, -, -⟩ := ppuStep_counters s
  exact vblankEvents_end _ (by rwa [hdot, hline] at h)

/-- Arriving anywhere else there is no vertical-blank event. -/
theorem afterVblank_other (hstart : ¬ ((ppuStep s).ppu.scanline = 241 ∧ (ppuStep s).ppu.dot = 1))
    (hend : ¬ ((ppuStep s).ppu.scanline = 261 ∧ (ppuStep s).ppu.dot = 1)) :
    (afterVblank s).ppu = s.ppu.arrive s.cfg.oddSkipRequiresRendering := by
  obtain ⟨hdot, hline, -, -⟩ := ppuStep_counters s
  rw [hdot, hline] at hstart hend
  exact vblankEvents_other _ hstart hend

theorem spriteFlagEvent_flags (u : State) :
    (spriteFlagEvent u).ppu.sprite0Hit =
      (u.ppu.sprite0Hit || (u.ppu.drawsSpriteFlags && Config.spriteHitDraw u.draws)) ∧
    (spriteFlagEvent u).ppu.spriteOverflow =
      (u.ppu.spriteOverflow || (u.ppu.drawsSpriteFlags && Config.spriteOverflowDraw u.draws)) := by
  unfold spriteFlagEvent
  cases u.ppu.drawsSpriteFlags <;> simp

/-- The sprite flags after a dot: those after its vertical-blank events, or drawn (R182). -/
theorem ppuStep_spriteFlags :
    (ppuStep s).ppu.sprite0Hit =
      ((afterVblank s).ppu.sprite0Hit || ((afterVblank s).ppu.drawsSpriteFlags && Config.spriteHitDraw s.draws)) ∧
    (ppuStep s).ppu.spriteOverflow =
      ((afterVblank s).ppu.spriteOverflow ||
        ((afterVblank s).ppu.drawsSpriteFlags && Config.spriteOverflowDraw s.draws)) := by
  rw [ppuStep_eq, scrollEvents_frame, fetchEvent_frame]
  exact spriteFlagEvent_flags _

/-- The dots at which sprite flags can be drawn (R182). -/
theorem drawsSpriteFlags_iff :
    (afterVblank s).ppu.drawsSpriteFlags = true ↔
      (ppuStep s).ppu.scanline ≤ 239 ∧ 1 ≤ (ppuStep s).ppu.dot ∧ (ppuStep s).ppu.dot ≤ 256 ∧
        (s.ppu.mask.showBg || s.ppu.mask.showSprites) = true := by
  rw [afterVblank_frame]
  simp only [Ppu.drawsSpriteFlags, Ppu.renderingEnabled, Bool.and_eq_true, decide_eq_true_eq]
  tauto

/-- The vblank flag and the edge detector over one dot (R172, R173, R176). -/
theorem ppuStep_vblankEvents :
    let q := (ppuStep s).ppu
    let starts := q.scanline = 241 ∧ q.dot = 1
    let ends := q.scanline = 261 ∧ q.dot = 1
    let nmi := s.ppu.ctrl.nmiOutput && q.nmiOccurred
    q.nmiOccurred = (if starts then true else if ends then false else s.ppu.nmiOccurred) ∧
    q.nmiPrevious = (if starts ∨ ends then nmi else s.ppu.nmiPrevious) ∧
    q.nmiDelay = (if (starts ∨ ends) ∧ nmi = true ∧ s.ppu.nmiPrevious = false then s.cfg.nmiDelay
      else s.ppu.nmiDelay - 1) := by
  intro q starts ends nmi
  obtain ⟨hocc, hprev, hdelay⟩ := ppuStep_vblank s
  by_cases hstart : starts
  · rw [afterVblank_start hstart, arrive_eq] at hocc hprev hdelay
    simp only [nmi, q, hocc, hprev, hdelay, hstart, Ppu.nmiChange, if_true, true_or, true_and, Bool.and_eq_true,
      Bool.not_eq_true']
  · by_cases hend : ends
    · rw [afterVblank_end hend, arrive_eq] at hocc hprev hdelay
      simp only [nmi, q, hocc, hprev, hdelay, hstart, hend, Ppu.nmiChange, if_true, if_false, or_true, Bool.and_false,
        Bool.false_and, Bool.false_eq_true, false_and, and_false, and_self]
    · rw [afterVblank_other hstart hend, arrive_eq] at hocc hprev hdelay
      simp only [q, hocc, hprev, hdelay, hstart, hend, if_false, or_self, false_and, and_self]

/-- The sprite flags after a dot's vertical-blank events are cleared at (261,1) and kept elsewhere (R176). -/
theorem afterVblank_spriteFlags :
    let ends := (ppuStep s).ppu.scanline = 261 ∧ (ppuStep s).ppu.dot = 1
    (ends → (afterVblank s).ppu.sprite0Hit = false ∧ (afterVblank s).ppu.spriteOverflow = false) ∧
    (¬ ends → (afterVblank s).ppu.sprite0Hit = s.ppu.sprite0Hit ∧
      (afterVblank s).ppu.spriteOverflow = s.ppu.spriteOverflow) := by
  intro ends
  refine ⟨fun hend => by rw [afterVblank_end hend]; exact ⟨rfl, rfl⟩, fun hend => ?_⟩
  by_cases hstart : (ppuStep s).ppu.scanline = 241 ∧ (ppuStep s).ppu.dot = 1
  · rw [afterVblank_start hstart, arrive_eq]
    exact ⟨rfl, rfl⟩
  · rw [afterVblank_other hstart hend, arrive_eq]
    exact ⟨rfl, rfl⟩

end

/-- Settles O51: the events by the position arrived at; the sprite flags are those events', or drawn where they can be. -/
theorem vblankAndSpriteFlagEvents : Obligations.VblankAndSpriteFlagEvents := by
  unfold Obligations.VblankAndSpriteFlagEvents
  intro s p q starts ends nmi
  obtain ⟨hocc, hprev, hdelay⟩ := ppuStep_vblankEvents (s := s)
  obtain ⟨hhit, hovf⟩ := ppuStep_spriteFlags (s := s)
  obtain ⟨hcleared, hkept⟩ := afterVblank_spriteFlags (s := s)
  refine ⟨hocc, hprev, hdelay, fun hend => ?cleared, fun hend => ?kept, fun hchanged => ?changed⟩
  case cleared =>
    obtain ⟨hhit', hovf'⟩ := hcleared hend
    obtain ⟨hline, -⟩ := hend
    have hdraw : (afterVblank s).ppu.drawsSpriteFlags = false := by
      rw [← Bool.not_eq_true, drawsSpriteFlags_iff, show (ppuStep s).ppu.scanline = 261 from hline]
      omega
    simp only [q, hhit, hovf, hhit', hovf', hdraw, Bool.false_and, Bool.or_false, and_self]
  case kept =>
    obtain ⟨hhit', hovf'⟩ := hkept hend
    simp only [q, hhit, hovf, hhit', hovf']
    exact ⟨fun h => by rw [h, Bool.true_or], fun h => by rw [h, Bool.true_or]⟩
  case changed =>
    by_contra hno
    rw [not_or] at hno
    obtain ⟨hend, hdots⟩ := hno
    have hdraw : (afterVblank s).ppu.drawsSpriteFlags = false := by
      rw [← Bool.not_eq_true, drawsSpriteFlags_iff]
      exact hdots
    obtain ⟨hhit', hovf'⟩ := hkept hend
    simp only [q, p, hhit, hovf, hhit', hovf', hdraw, Bool.false_and, Bool.or_false, ne_eq, not_true, or_self] at hchanged

/-! ### The counters -/

section
variable {skip : Bool} {p : Ppu}

theorem arrive_dot (hskip : p.skipsDot skip = false) (h : p.dot + 1 ≠ 341) :
    p.arrive skip = { p with nmiDelay := p.nmiDelay - 1, dot := p.dot + 1 } :=
  (if_neg (Bool.eq_false_iff.mp hskip)).trans (if_neg h)

theorem arrive_line (hskip : p.skipsDot skip = false) (h : p.dot + 1 = 341) (hline : p.scanline + 1 ≠ 262) :
    p.arrive skip = { p with nmiDelay := p.nmiDelay - 1, dot := 0, scanline := p.scanline + 1 } :=
  (if_neg (Bool.eq_false_iff.mp hskip)).trans ((if_pos h).trans (if_neg hline))

/-- The next frame begins after the last dot of line 261, or where the skip applies (R175). -/
theorem arrive_frame (h : p.skipsDot skip = true ∨ p.dot + 1 = 341 ∧ p.scanline + 1 = 262) :
    p.arrive skip = Ppu.wrapFrame { p with nmiDelay := p.nmiDelay - 1 } := by
  by_cases hskip : p.skipsDot skip = true
  · exact if_pos hskip
  · obtain ⟨hdot, hline⟩ := h.resolve_left hskip
    exact (if_neg hskip).trans ((if_pos hdot).trans (if_pos hline))

theorem skipsDot_iff :
    p.skipsDot skip = true ↔ (p.scanline = 261 ∧ p.dot = 339) ∧ p.oddFrame = true ∧
      (skip = true → (p.mask.showBg || p.mask.showSprites) = true) := by
  cases skip <;>
    simp only [Ppu.skipsDot, Ppu.renderingEnabled, Bool.and_eq_true, decide_eq_true_eq, Bool.not_true, Bool.not_false,
      Bool.or_true, Bool.or_false, and_true, and_assoc, forall_const, Bool.false_eq_true, false_implies]

end

/-! ### Runs of dots -/

/-- The dot `n` of a frame, counted from dot 0 of line 0 (R175). -/
def Ppu.AtDot (n : Nat) (p : Ppu) : Prop := p.dot ≤ 340 ∧ 341 * p.scanline + p.dot = n

section
variable {s : State}

/-- Before the frame's last dot, where the skip does not apply, a dot arrives at the next one of the same frame (R175). -/
theorem ppuStep_atDot {n : Nat} (h : s.ppu.AtDot n) (hn : n + 1 < 341 * 262)
    (hskip : s.ppu.skipsDot s.cfg.oddSkipRequiresRendering = false) :
    (ppuStep s).ppu.AtDot (n + 1) ∧ (ppuStep s).ppu.frame = s.ppu.frame ∧
      (ppuStep s).ppu.oddFrame = s.ppu.oddFrame := by
  obtain ⟨hdot, hposition⟩ := h
  obtain ⟨hdot', hline', hframe', hodd'⟩ := ppuStep_counters s
  unfold Ppu.AtDot
  rw [hdot', hline', hframe', hodd']
  by_cases hlast : s.ppu.dot + 1 = 341
  · rw [arrive_line hskip hlast (show s.ppu.scanline + 1 ≠ 262 by omega)]
    exact ⟨⟨Nat.zero_le _, show 341 * (s.ppu.scanline + 1) + 0 = n + 1 by omega⟩, rfl, rfl⟩
  · rw [arrive_dot hskip hlast]
    exact ⟨⟨show s.ppu.dot + 1 ≤ 340 by omega, show 341 * s.ppu.scanline + (s.ppu.dot + 1) = n + 1 by omega⟩,
      rfl, rfl⟩

/-- Before dot 339 of line 261 the skip does not apply (R175). -/
theorem skipsDot_eq_false {n : Nat} {skip : Bool} {p : Ppu} (h : p.AtDot n) (hn : n ≠ 341 * 261 + 339) :
    p.skipsDot skip = false := by
  obtain ⟨-, hposition⟩ := h
  rw [← Bool.not_eq_true, skipsDot_iff]
  omega

/-- A run of dots inside one frame (R175). -/
theorem ppuRun_atDot {m n : Nat} (h : s.ppu.AtDot m) (hn : m + n ≤ 341 * 261 + 339) :
    (ppuRun n s).ppu.AtDot (m + n) ∧ (ppuRun n s).ppu.frame = s.ppu.frame ∧
      (ppuRun n s).ppu.oddFrame = s.ppu.oddFrame := by
  induction n with
  | zero => exact ⟨h, rfl, rfl⟩
  | succ n ih =>
    obtain ⟨hat, hframe, hodd⟩ := ih (by omega)
    obtain ⟨hat', hframe', hodd'⟩ := ppuStep_atDot hat (by omega) (skipsDot_eq_false hat (by omega))
    rw [ppuRun_succ]
    exact ⟨hat', hframe'.trans hframe, hodd'.trans hodd⟩

/-- The dot that ends a frame arrives at dot 0 of line 0 of the next one (R175). -/
theorem ppuStep_frame_end (h : s.ppu.skipsDot s.cfg.oddSkipRequiresRendering = true ∨
      s.ppu.dot + 1 = 341 ∧ s.ppu.scanline + 1 = 262) :
    (ppuStep s).ppu.dot = 0 ∧ (ppuStep s).ppu.scanline = 0 ∧ (ppuStep s).ppu.frame = s.ppu.frame + 1 ∧
      (ppuStep s).ppu.oddFrame = !s.ppu.oddFrame := by
  obtain ⟨hdot, hline, hframe, hodd⟩ := ppuStep_counters s
  rw [hdot, hline, hframe, hodd, arrive_frame h]
  exact ⟨rfl, rfl, rfl, rfl⟩

@[simp] theorem ppuRun_mask (n : Nat) (s : State) : (ppuRun n s).ppu.mask = s.ppu.mask :=
  ppuRun_keeps (·.ppu.mask) ppuStep_mask n s

@[simp] theorem ppuRun_ctrl (n : Nat) (s : State) : (ppuRun n s).ppu.ctrl = s.ppu.ctrl :=
  ppuRun_keeps (·.ppu.ctrl) ppuStep_ctrl n s

theorem Ppu.AtDot.skip_position {p : Ppu} {n : Nat} (h : p.AtDot n) (hn : n = 341 * 261 + 339) :
    p.scanline = 261 ∧ p.dot = 339 := by
  obtain ⟨hdot, hposition⟩ := h
  omega

/-- From dot 0 of line 0, the dots up to dot 339 of line 261, where the skip is decided (R175). -/
theorem ppuRun_to_skip {n : Nat} (hn : n = 341 * 261 + 339) (hdot : s.ppu.dot = 0) (hline : s.ppu.scanline = 0) :
    (ppuRun n s).ppu.AtDot n ∧ (ppuRun n s).ppu.frame = s.ppu.frame ∧ (ppuRun n s).ppu.oddFrame = s.ppu.oddFrame ∧
    ((ppuRun n s).ppu.skipsDot (ppuRun n s).cfg.oddSkipRequiresRendering = true ↔ s.ppu.oddFrame = true ∧
      (s.cfg.oddSkipRequiresRendering = true → (s.ppu.mask.showBg || s.ppu.mask.showSprites) = true)) := by
  have hstart : s.ppu.AtDot 0 := ⟨by omega, by omega⟩
  obtain ⟨hat, hframe, hodd⟩ := ppuRun_atDot (n := n) hstart (by omega)
  rw [Nat.zero_add] at hat
  refine ⟨hat, hframe, hodd, ?_⟩
  rw [skipsDot_iff, ppuRun_mask, ppuRun_cfg, hodd, and_iff_right (hat.skip_position hn)]

end

/-- Settles O50: the dots up to (261,339) count the positions; there the skip ends the frame, else two more dots do. -/
theorem framesHaveTheirDots : Obligations.FramesHaveTheirDots := by
  unfold Obligations.FramesHaveTheirDots
  intro s hdot hline skips q
  obtain ⟨hat, hframe, hodd, hskip⟩ := ppuRun_to_skip (n := 341 * 261 + 339) rfl hdot hline
  by_cases h : skips
  · have hq : q = (ppuStep (ppuRun (341 * 261 + 339) s)).ppu := by
      rw [← ppuRun_succ]
      exact congrArg (fun n => (ppuRun n s).ppu) (if_pos h)
    rw [hq, ← hframe, ← hodd]
    exact ppuStep_frame_end (.inl (hskip.mpr h))
  · have hq : q = (ppuStep (ppuStep (ppuRun (341 * 261 + 339) s))).ppu := by
      rw [← ppuRun_succ, ← ppuRun_succ]
      exact congrArg (fun n => (ppuRun n s).ppu) (if_neg h)
    obtain ⟨⟨hdot', hposition⟩, hframe', hodd'⟩ :=
      ppuStep_atDot hat (by decide) (Bool.eq_false_iff.mpr (h ∘ hskip.mp))
    rw [hq, ← hframe, ← hodd, ← hframe', ← hodd']
    exact ppuStep_frame_end (.inr ⟨by omega, by omega⟩)

/-! ### The delay of an armed NMI -/

section
variable {s : State}

/-- The NMI is delivered at the dot at which the delay ends, if its condition holds (R173). -/
theorem nmiDelivers_iff (p : Ppu) :
    p.nmiDelivers = true ↔ p.nmiDelay = 1 ∧ p.ctrl.nmiOutput = true ∧ p.nmiOccurred = true := by
  rw [Ppu.nmiDelivers, Bool.and_eq_true, Bool.and_eq_true, decide_eq_true_eq, and_assoc]

theorem ppuStep_pending_keeps (h : ¬ s.ppu.nmiDelivers = true) : (ppuStep s).pending = s.pending := by
  rw [ppuStep_pending, if_neg h]

/-- With NMI output off no run of dots delivers an NMI (R173). -/
theorem ppuRun_pending_of_output_off (h : s.ppu.ctrl.nmiOutput = false) (n : Nat) :
    (ppuRun n s).pending = s.pending := by
  induction n with
  | zero => rfl
  | succ n ih =>
    have hoff : ¬ (ppuRun n s).ppu.nmiDelivers = true := by
      rw [nmiDelivers_iff, ppuRun_ctrl, h]
      rintro ⟨-, hfalse, -⟩
      cases hfalse
    rw [ppuRun_succ, ppuStep_pending_keeps hoff, ih]

/-- Between (241,1) and (261,1) no dot changes `vblank` or arms the delay (R176). -/
theorem ppuStep_inside_vblank {m : Nat} (hat : (ppuStep s).ppu.AtDot m) (hlow : 341 * 241 + 1 < m)
    (hhigh : m < 341 * 261 + 1) :
    (ppuStep s).ppu.nmiOccurred = s.ppu.nmiOccurred ∧ (ppuStep s).ppu.nmiDelay = s.ppu.nmiDelay - 1 := by
  obtain ⟨hdot, hposition⟩ := hat
  have hstart : ¬ ((ppuStep s).ppu.scanline = 241 ∧ (ppuStep s).ppu.dot = 1) := by omega
  have hend : ¬ ((ppuStep s).ppu.scanline = 261 ∧ (ppuStep s).ppu.dot = 1) := by omega
  obtain ⟨hocc, -, hdelay⟩ := ppuStep_vblankEvents (s := s)
  rw [if_neg hstart, if_neg hend] at hocc
  rw [if_neg fun h => h.1.elim hstart hend] at hdelay
  exact ⟨hocc, hdelay⟩

/-- In vertical blank the delay counts down undisturbed, and until it ends the slot keeps what it holds (R173, R176). -/
theorem ppuRun_countdown {m n : Nat} (hat : s.ppu.AtDot m) (hlow : 341 * 241 + 1 ≤ m)
    (hhigh : m + s.ppu.nmiDelay ≤ 341 * 261 + 1) (hn : n < s.ppu.nmiDelay) :
    (ppuRun n s).ppu.nmiDelay = s.ppu.nmiDelay - n ∧ (ppuRun n s).ppu.nmiOccurred = s.ppu.nmiOccurred ∧
      (ppuRun n s).pending = s.pending := by
  induction n with
  | zero => exact ⟨rfl, rfl, rfl⟩
  | succ n ih =>
    obtain ⟨hdelay, hocc, hpending⟩ := ih (by omega)
    obtain ⟨hat', -, -⟩ := ppuRun_atDot (n := n + 1) hat (by omega)
    rw [ppuRun_succ] at hat' ⊢
    obtain ⟨hocc', hdelay'⟩ := ppuStep_inside_vblank hat' (by omega) (by omega)
    have hkeeps : ¬ (ppuRun n s).ppu.nmiDelivers = true := by
      rw [nmiDelivers_iff]
      omega
    exact ⟨by omega, hocc'.trans hocc, (ppuStep_pending_keeps hkeeps).trans hpending⟩

end

/-- Settles O52: a dot delivers exactly at the delay's end, and the countdown leads there. -/
theorem nmiDeliveredAfterDelay : Obligations.NmiDeliveredAfterDelay := by
  unfold Obligations.NmiDeliveredAfterDelay
  intro s p position holds
  refine ⟨?dot, ppuRun_pending_of_output_off, fun hdot hlow hhigh hpos => ⟨fun n hn => ?before, ?delivery⟩⟩
  case dot =>
    simp only [ppuStep_pending, nmiDelivers_iff]
    rfl
  case before =>
    obtain ⟨-, -, hpending⟩ := ppuRun_countdown (m := position) ⟨hdot, rfl⟩ hlow hhigh hn
    exact hpending
  case delivery =>
    obtain ⟨n, hn⟩ : ∃ n, s.ppu.nmiDelay = n + 1 := Nat.exists_eq_succ_of_ne_zero (Nat.ne_zero_of_lt hpos)
    obtain ⟨hdelay, hocc, hpending⟩ := ppuRun_countdown (m := position) (n := n) ⟨hdot, rfl⟩ hlow hhigh (by omega)
    have hone : (ppuRun n s).ppu.nmiDelay = 1 := by omega
    change (ppuRun s.ppu.nmiDelay s).pending = _
    rw [hn, ppuRun_succ, ppuStep_pending]
    simp only [nmiDelivers_iff, hone, ppuRun_ctrl, hocc, hpending, true_and]
    rfl

end Sys2Proof.Machine
end

section
/-! Rendering (R177 to R181): at which dots the background fetches and the scroll events happen, what each does to the
latches and to the fields of `v`, and that nothing else touches them. -/

namespace Sys2Proof.Machine

/-! ### The dots of the events -/

/-- The background fetch event number `k` of eight happens at this dot (R177, R178). -/
def Ppu.fetchesAt (k : Nat) (p : Ppu) : Bool := p.rendering && p.inFetchWindow && decide (p.dot % 8 = k)

section
variable {s : State}

/-- Rendering at the dot arrived at (R177). -/
theorem afterVblank_rendering :
    (afterVblank s).ppu.rendering = true ↔
      (s.ppu.mask.showBg || s.ppu.mask.showSprites) = true ∧
        ((ppuStep s).ppu.scanline ≤ 239 ∨ (ppuStep s).ppu.scanline = 261) := by
  rw [afterVblank_frame]
  simp only [Ppu.rendering, Ppu.renderingEnabled, Ppu.onRenderingLine, Bool.and_eq_true, Bool.or_eq_true,
    decide_eq_true_eq]

theorem afterVblank_inFetchWindow :
    (afterVblank s).ppu.inFetchWindow = true ↔
      1 ≤ (ppuStep s).ppu.dot ∧ (ppuStep s).ppu.dot ≤ 256 ∨
        321 ≤ (ppuStep s).ppu.dot ∧ (ppuStep s).ppu.dot ≤ 336 := by
  rw [afterVblank_frame]
  simp only [Ppu.inFetchWindow, Bool.and_eq_true, Bool.or_eq_true, decide_eq_true_eq]

@[simp] theorem afterVblank_dot (s : State) : (afterVblank s).ppu.dot = (ppuStep s).ppu.dot := by
  rw [afterVblank_frame]

@[simp] theorem afterVblank_scanline (s : State) : (afterVblank s).ppu.scanline = (ppuStep s).ppu.scanline := by
  rw [afterVblank_frame]

@[simp] theorem afterVblank_v (s : State) : (afterVblank s).ppu.v = s.ppu.v := by
  rw [afterVblank_frame]

@[simp] theorem afterVblank_t (s : State) : (afterVblank s).ppu.t = s.ppu.t := by
  rw [afterVblank_frame]

theorem afterVblank_fetchesAt (k : Nat) (hrender : (s.ppu.mask.showBg || s.ppu.mask.showSprites) = true) :
    (afterVblank s).ppu.fetchesAt k = true ↔
      ((ppuStep s).ppu.scanline ≤ 239 ∨ (ppuStep s).ppu.scanline = 261) ∧
      (1 ≤ (ppuStep s).ppu.dot ∧ (ppuStep s).ppu.dot ≤ 256 ∨
        321 ≤ (ppuStep s).ppu.dot ∧ (ppuStep s).ppu.dot ≤ 336) ∧
      (ppuStep s).ppu.dot % 8 = k := by
  rw [Ppu.fetchesAt, Bool.and_eq_true, Bool.and_eq_true, afterVblank_rendering, and_iff_right hrender,
    afterVblank_inFetchWindow, afterVblank_dot, decide_eq_true_eq, and_assoc]

end

/-! ### The fetches -/

/-- What the fetch event changes: at its dot each latch takes its byte, and at the store dot `v` steps (R177, R178). -/
theorem fetchEvent_fields (u : State) :
    (fetchEvent u).ppu.v = (if u.ppu.fetchesAt 0 = true then u.ppu.incX.v else u.ppu.v) ∧
    (fetchEvent u).ppu.ntLatch =
      (if u.ppu.fetchesAt 1 = true then ppuRead u u.ppu.ntAddress else u.ppu.ntLatch) ∧
    (fetchEvent u).ppu.atLatch =
      (if u.ppu.fetchesAt 3 = true then ppuRead u u.ppu.atAddress else u.ppu.atLatch) ∧
    (fetchEvent u).ppu.loLatch =
      (if u.ppu.fetchesAt 5 = true then ppuRead u u.ppu.patternAddress else u.ppu.loLatch) ∧
    (fetchEvent u).ppu.hiLatch =
      (if u.ppu.fetchesAt 7 = true then ppuRead u (u.ppu.patternAddress + 8) else u.ppu.hiLatch) := by
  unfold fetchEvent Ppu.fetchesAt
  cases hfetch : (u.ppu.rendering && u.ppu.inFetchWindow) with
  | false => simp only [Bool.false_and, Bool.false_eq_true, if_false, and_self]
  | true =>
    simp only [Bool.true_and, decide_eq_true_eq, if_true]
    split <;> simp_all [Ppu.incX]

/-- The vertical-blank events change neither the PPU's memories, nor the latches, nor the fetch addresses. -/
theorem afterVblank_fetch (s : State) :
    (∀ a, ppuRead (afterVblank s) a = ppuRead s a) ∧ (afterVblank s).ppu.ntAddress = s.ppu.ntAddress ∧
      (afterVblank s).ppu.atAddress = s.ppu.atAddress ∧ (afterVblank s).ppu.patternAddress = s.ppu.patternAddress ∧
      (afterVblank s).ppu.ntLatch = s.ppu.ntLatch ∧ (afterVblank s).ppu.atLatch = s.ppu.atLatch ∧
      (afterVblank s).ppu.loLatch = s.ppu.loLatch ∧ (afterVblank s).ppu.hiLatch = s.ppu.hiLatch := by
  rw [afterVblank_frame]
  exact ⟨fun _ => rfl, rfl, rfl, rfl, rfl, rfl, rfl, rfl⟩

/-- The latches over one dot (R177). -/
theorem ppuStep_fetches (s : State) :
    (ppuStep s).ppu.ntLatch =
      (if (afterVblank s).ppu.fetchesAt 1 = true then ppuRead s s.ppu.ntAddress else s.ppu.ntLatch) ∧
    (ppuStep s).ppu.atLatch =
      (if (afterVblank s).ppu.fetchesAt 3 = true then ppuRead s s.ppu.atAddress else s.ppu.atLatch) ∧
    (ppuStep s).ppu.loLatch =
      (if (afterVblank s).ppu.fetchesAt 5 = true then ppuRead s s.ppu.patternAddress else s.ppu.loLatch) ∧
    (ppuStep s).ppu.hiLatch =
      (if (afterVblank s).ppu.fetchesAt 7 = true then ppuRead s (s.ppu.patternAddress + 8) else s.ppu.hiLatch) := by
  obtain ⟨hnt, hat, hlo, hhi⟩ := ppuStep_latches s
  obtain ⟨-, hnt', hat', hlo', hhi'⟩ := fetchEvent_fields (afterVblank s)
  simp only [hnt, hat, hlo, hhi, hnt', hat', hlo', hhi', afterVblank_fetch, and_self]

/-- At the store dot the fetch event is `IncX` alone (R178). -/
theorem fetchEvent_incX {u : State} (h : u.ppu.fetchesAt 0 = true) : fetchEvent u = u.setPpu u.ppu.incX := by
  rw [Ppu.fetchesAt, Bool.and_eq_true, decide_eq_true_eq] at h
  obtain ⟨hfetch, hdot⟩ := h
  simp only [fetchEvent, hfetch, hdot, if_true]

/-! ### The scroll events -/

section
variable {p : Ppu}

theorem scrollEvents_incY (hrender : p.rendering = true) (h : p.dot = 256) : p.scrollEvents = p.incY := by
  rw [Ppu.scrollEvents, if_pos hrender, if_pos h]

theorem scrollEvents_copyX (hrender : p.rendering = true) (h : p.dot = 257) : p.scrollEvents = p.copyX := by
  rw [Ppu.scrollEvents, if_pos hrender, if_neg (by omega), if_pos h]

theorem scrollEvents_copyY (hrender : p.rendering = true) (h : p.scanline = 261 ∧ 280 ≤ p.dot ∧ p.dot ≤ 304) :
    p.scrollEvents = p.copyY := by
  rw [Ppu.scrollEvents, if_pos hrender, if_neg (by omega), if_neg (by omega), if_pos h]

/-- Where there is no scroll event, nothing changes (R179 to R181). -/
theorem scrollEvents_none (h : p.rendering = true →
      p.dot ≠ 256 ∧ p.dot ≠ 257 ∧ ¬ (p.scanline = 261 ∧ 280 ≤ p.dot ∧ p.dot ≤ 304)) :
    p.scrollEvents = p := by
  rw [Ppu.scrollEvents]
  split
  · next hrender =>
    obtain ⟨hincY, hcopyX, hcopyY⟩ := h hrender
    rw [if_neg hincY, if_neg hcopyX, if_neg hcopyY]
  · rfl

/-- The scroll events as a function of what they look at: the position, the mask, `v` and `t`. -/
theorem scrollEvents_v (p : Ppu) :
    p.scrollEvents.v =
      if p.rendering = true then
        if p.dot = 256 then p.incY.v
        else if p.dot = 257 then p.copyX.v
        else if p.scanline = 261 ∧ 280 ≤ p.dot ∧ p.dot ≤ 304 then p.copyY.v
        else p.v
      else p.v := by
  unfold Ppu.scrollEvents
  split_ifs <;> rfl

end

/-! ### The increments, field by field -/

/-- `IncX` steps coarse X, and switches the horizontal nametable where it wraps (R178). -/
theorem incX_fields (p : Ppu) :
    let r := p.incX.v
    let v := p.v.toNat
    r.toNat % 32 = (v + 1) % 32 ∧ r.toNat / 1024 % 2 = (v / 1024 + if v % 32 = 31 then 1 else 0) % 2 ∧
      r.toNat / 32 % 32 = v / 32 % 32 ∧ r.toNat / 2048 = v / 2048 := by
  intro r v
  have hcoarse : p.v &&& 0x001F = 31 ↔ v % 32 = 31 := by
    rw [← BitVec.toNat_inj, BitVec.toNat_and]
    exact iff_of_eq (congrArg (· = 31) (Nat.and_two_pow_sub_one_eq_mod v 5))
  by_cases hwrap : v % 32 = 31
  · have hr : r = (p.v &&& 0x7FE0) ^^^ 0x0400 := if_pos (hcoarse.mpr hwrap)
    have hx : fieldNat r 0 5 = 0 := by rw [hr, fieldNat_xor_zero rfl, fieldNat_and_zero rfl]
    have hy : fieldNat r 5 5 = fieldNat p.v 5 5 := by rw [hr, fieldNat_xor_zero rfl, fieldNat_and_ones rfl]
    have hnt : fieldNat r 10 1 = (fieldNat p.v 10 1 + 1) % 2 := by rw [hr, fieldNat_xor_one rfl, fieldNat_and_ones rfl]
    have hhigh : fieldNat r 11 4 = fieldNat p.v 11 4 := by rw [hr, fieldNat_xor_zero rfl, fieldNat_and_ones rfl]
    simp only [fieldNat, Nat.reducePow, Nat.div_one] at hx hy hnt hhigh
    rw [if_pos hwrap]
    refine ⟨?_, ?_, hy, ?_⟩ <;> omega
  · have hr : r = p.v + 1 := if_neg (hwrap ∘ hcoarse.mp)
    have hsum : r.toNat = v + 1 := by rw [hr]; bv_omega
    rw [hsum, if_neg hwrap]
    refine ⟨rfl, ?_, ?_, ?_⟩ <;> omega

/-- The next coarse Y and the nametable switch, as numbers (R179). -/
theorem nextCoarseY_eq (p : Ppu) :
    let y := p.v.toNat / 32 % 32
    p.nextCoarseY.1.toNat = (if y = 29 then 0 else (y + 1) % 32) ∧ p.nextCoarseY.2 = decide (y = 29) := by
  intro y
  have hy : ((p.v >>> 5) &&& 0x001F).toNat = y := by
    rw [BitVec.toNat_and, BitVec.toNat_ushiftRight, Nat.shiftRight_eq_div_pow]
    exact Nat.and_two_pow_sub_one_eq_mod _ 5
  unfold Ppu.nextCoarseY
  generalize (p.v >>> 5) &&& 0x001F = c at hy
  have hc (k : BitVec 15) : c = k ↔ y = k.toNat := by rw [← BitVec.toNat_inj, hy]
  by_cases h29 : y = 29
  · rw [if_pos ((hc 29).mpr h29), if_pos h29, decide_eq_true h29]
    exact ⟨rfl, rfl⟩
  · rw [if_neg (h29 ∘ (hc 29).mp), if_neg h29, decide_eq_false h29]
    by_cases h31 : y = 31
    · rw [if_pos ((hc 31).mpr h31), h31]
      exact ⟨rfl, rfl⟩
    · rw [if_neg (h31 ∘ (hc 31).mp)]
      refine ⟨?_, rfl⟩
      dsimp only
      bv_omega

/-- `v` in an `IncY` that carries: fine Y cleared, and the vertical nametable switched if `switch` (R179). -/
theorem carry_fields {x w : BitVec 15} {switch : Bool}
    (h : (if switch = true then (x &&& 0x0FFF) ^^^ 0x0800 else x &&& 0x0FFF) = w) :
    fieldNat w 0 5 = fieldNat x 0 5 ∧ fieldNat w 10 1 = fieldNat x 10 1 ∧
      fieldNat w 11 1 = (fieldNat x 11 1 + if switch = true then 1 else 0) % 2 ∧ fieldNat w 12 3 = 0 := by
  subst h
  cases switch with
  | true =>
    rw [if_pos rfl, fieldNat_xor_zero rfl, fieldNat_xor_zero rfl, fieldNat_xor_one rfl, fieldNat_xor_zero rfl,
      fieldNat_and_ones rfl, fieldNat_and_ones rfl, fieldNat_and_ones rfl, fieldNat_and_zero rfl]
    exact ⟨rfl, rfl, rfl, rfl⟩
  | false =>
    rw [if_neg Bool.false_ne_true, fieldNat_and_ones rfl, fieldNat_and_ones rfl, fieldNat_and_ones rfl,
      fieldNat_and_zero rfl]
    exact ⟨rfl, rfl, (Nat.mod_mod _ 2).symm, rfl⟩

/-- `IncY` steps fine Y and carries into coarse Y, which wraps at 29 with a switch of the vertical nametable and at 31
without (R179). -/
theorem incY_fields (p : Ppu) :
    let r := p.incY.v
    let v := p.v.toNat
    let y := v / 32 % 32
    let carry := v / 4096 = 7
    r.toNat % 32 = v % 32 ∧ r.toNat / 1024 % 2 = v / 1024 % 2 ∧ r.toNat / 4096 = (v / 4096 + 1) % 8 ∧
      r.toNat / 32 % 32 = (if carry then (if y = 29 then 0 else (y + 1) % 32) else y) ∧
      r.toNat / 2048 % 2 = (v / 2048 + if carry ∧ y = 29 then 1 else 0) % 2 := by
  intro r v y carry
  have hcarry : p.v >>> 12 = 7 ↔ carry := by
    rw [← BitVec.toNat_inj, BitVec.toNat_ushiftRight, Nat.shiftRight_eq_div_pow]
    exact Iff.rfl
  by_cases h : carry
  · obtain ⟨hnext, hswitch⟩ := nextCoarseY_eq p
    have hr : r = (if p.nextCoarseY.2 = true then (p.v &&& 0x0FFF) ^^^ 0x0800 else p.v &&& 0x0FFF) &&&
        (0x7C1F : BitVec 15) ||| p.nextCoarseY.1 <<< 5 := if_pos (hcarry.mpr h)
    have hlt : p.nextCoarseY.1.toNat < 32 := by rw [hnext]; split <;> omega
    have hc : (p.nextCoarseY.1 <<< 5).toNat = 32 * p.nextCoarseY.1.toNat := by
      rw [BitVec.toNat_shiftLeft, Nat.shiftLeft_eq]
      omega
    generalize hw : (if p.nextCoarseY.2 = true then (p.v &&& 0x0FFF) ^^^ 0x0800 else p.v &&& 0x0FFF) = w at hr
    obtain ⟨hx, hntX, hntY, hfine⟩ := carry_fields hw
    have hkept (lo len : Nat) (hmask : fieldNat (0x7C1F : BitVec 15) lo len = 2 ^ len - 1)
        (hlo : fieldNat (p.nextCoarseY.1 <<< 5) lo len = 0) : fieldNat r lo len = fieldNat w lo len := by
      rw [hr, fieldNat_merge_kept hmask hlo]
    have hrx := (hkept 0 5 rfl (by simp only [fieldNat]; omega)).trans hx
    have hrntX := (hkept 10 1 rfl (by simp only [fieldNat]; omega)).trans hntX
    have hrntY := (hkept 11 1 rfl (by simp only [fieldNat]; omega)).trans hntY
    have hrfine := (hkept 12 3 rfl (by simp only [fieldNat]; omega)).trans hfine
    have hry : fieldNat r 5 5 = fieldNat (p.nextCoarseY.1 <<< 5) 5 5 := by rw [hr, fieldNat_merge_new rfl]
    rw [hswitch] at hrntY
    simp only [fieldNat, Nat.reducePow, Nat.div_one, decide_eq_true_eq] at hrx hrntX hrntY hrfine hry
    have hv : v / 4096 = 7 := h
    simp only [h, if_true, true_and]
    refine ⟨hrx, hrntX, by omega, ?_, ?_⟩
    · rw [hry, hc, ← hnext]
      omega
    · exact hrntY.trans (Nat.mod_add_mod _ 2 _)
  · have hr : r = p.v + 0x1000 := if_neg (h ∘ hcarry.mp)
    have hv : v / 4096 ≠ 7 := h
    have hsum : r.toNat = v + 4096 := by rw [hr]; bv_omega
    rw [hsum, if_neg h, if_neg fun hand => h hand.1]
    refine ⟨?_, ?_, ?_, ?_, ?_⟩ <;> omega

/-! ### The scroll address over one dot -/

section
variable {s : State}

theorem Ppu.rendering_of_fetchesAt {k : Nat} {p : Ppu} (h : p.fetchesAt k = true) : p.rendering = true := by
  rw [Ppu.fetchesAt, Bool.and_eq_true, Bool.and_eq_true] at h
  obtain ⟨⟨hrender, -⟩, -⟩ := h
  exact hrender

/-- At a store dot the scroll events act on the `v` that `IncX` gives (R178). -/
theorem ppuStep_v_store (hfetch : (afterVblank s).ppu.fetchesAt 0 = true) :
    (ppuStep s).ppu.v = (afterVblank s).ppu.incX.scrollEvents.v := by
  rw [ppuStep_v, fetchEvent_incX hfetch]
  rfl

/-- At a store dot but 256 `v` takes `IncX` alone: no scroll event shares the dot (R178). -/
theorem ppuStep_v_incX (hfetch : (afterVblank s).ppu.fetchesAt 0 = true)
    (hscroll : (ppuStep s).ppu.dot ≠ 256 ∧ (ppuStep s).ppu.dot ≠ 257 ∧
      ¬ ((ppuStep s).ppu.scanline = 261 ∧ 280 ≤ (ppuStep s).ppu.dot ∧ (ppuStep s).ppu.dot ≤ 304)) :
    (ppuStep s).ppu.v = s.ppu.incX.v := by
  rw [← afterVblank_dot, ← afterVblank_scanline] at hscroll
  rw [ppuStep_v_store hfetch, scrollEvents_none (p := (afterVblank s).ppu.incX) fun _ => hscroll, afterVblank_frame]
  rfl

/-- At dot 256 `v` takes `IncX`, then `IncY` (R178, R179). -/
theorem ppuStep_v_incY (hfetch : (afterVblank s).ppu.fetchesAt 0 = true) (h : (ppuStep s).ppu.dot = 256) :
    (ppuStep s).ppu.v = s.ppu.incX.incY.v := by
  rw [← afterVblank_dot] at h
  rw [ppuStep_v_store hfetch,
    scrollEvents_incY (p := (afterVblank s).ppu.incX) (Ppu.rendering_of_fetchesAt hfetch) h, afterVblank_frame]
  rfl

/-- But for the store dots the scroll events act on the old `v` (R179 to R181). -/
theorem ppuStep_v_noStore (hfetch : ¬ (afterVblank s).ppu.fetchesAt 0 = true) :
    (ppuStep s).ppu.v = (afterVblank s).ppu.scrollEvents.v := by
  obtain ⟨hv, -⟩ := fetchEvent_fields (afterVblank s)
  rw [if_neg hfetch] at hv
  rw [ppuStep_v, fetchEvent_frame, hv, scrollEvents_v, scrollEvents_v]
  rfl

theorem ppuStep_v_copyX (hfetch : ¬ (afterVblank s).ppu.fetchesAt 0 = true)
    (hrender : (afterVblank s).ppu.rendering = true) (h : (ppuStep s).ppu.dot = 257) :
    (ppuStep s).ppu.v = (s.ppu.v &&& 0x7BE0) ||| (s.ppu.t &&& 0x041F) := by
  rw [← afterVblank_dot] at h
  rw [ppuStep_v_noStore hfetch, scrollEvents_copyX hrender h, Ppu.copyX, afterVblank_v, afterVblank_t]

theorem ppuStep_v_copyY (hfetch : ¬ (afterVblank s).ppu.fetchesAt 0 = true)
    (hrender : (afterVblank s).ppu.rendering = true)
    (h : (ppuStep s).ppu.scanline = 261 ∧ 280 ≤ (ppuStep s).ppu.dot ∧ (ppuStep s).ppu.dot ≤ 304) :
    (ppuStep s).ppu.v = (s.ppu.v &&& 0x041F) ||| (s.ppu.t &&& 0x7BE0) := by
  rw [← afterVblank_dot, ← afterVblank_scanline] at h
  rw [ppuStep_v_noStore hfetch, scrollEvents_copyY hrender h, Ppu.copyY, afterVblank_v, afterVblank_t]

/-- Where neither a store dot's fetch nor a scroll event happens, `v` stays. -/
theorem ppuStep_v_keeps (hfetch : ¬ (afterVblank s).ppu.fetchesAt 0 = true)
    (hscroll : (afterVblank s).ppu.rendering = true → (ppuStep s).ppu.dot ≠ 256 ∧ (ppuStep s).ppu.dot ≠ 257 ∧
      ¬ ((ppuStep s).ppu.scanline = 261 ∧ 280 ≤ (ppuStep s).ppu.dot ∧ (ppuStep s).ppu.dot ≤ 304)) :
    (ppuStep s).ppu.v = s.ppu.v := by
  rw [← afterVblank_dot, ← afterVblank_scanline] at hscroll
  rw [ppuStep_v_noStore hfetch, scrollEvents_none hscroll, afterVblank_v]

/-- With rendering disabled there is no fetch and no scroll event (R177 to R181). -/
theorem ppuStep_rendering_off (hbg : s.ppu.mask.showBg = false) (hsprites : s.ppu.mask.showSprites = false) :
    let q := (ppuStep s).ppu
    q.v = s.ppu.v ∧ q.ntLatch = s.ppu.ntLatch ∧ q.atLatch = s.ppu.atLatch ∧ q.loLatch = s.ppu.loLatch ∧
      q.hiLatch = s.ppu.hiLatch := by
  intro q
  have hrender : ¬ (afterVblank s).ppu.rendering = true := by
    rw [afterVblank_rendering, hbg, hsprites]
    exact fun h => Bool.noConfusion h.1
  have hfetch (k : Nat) : ¬ (afterVblank s).ppu.fetchesAt k = true := by
    rw [Ppu.fetchesAt, Bool.eq_false_iff.mpr hrender]
    exact Bool.false_ne_true
  refine ⟨ppuStep_v_keeps (hfetch 0) fun h => absurd h hrender, ?_⟩
  simpa only [hfetch, Bool.false_eq_true, if_false] using ppuStep_fetches s

end

/-- Settles O53: one dot with rendering disabled keeps them, and leaves rendering disabled. -/
theorem noRenderingKeepsScroll : Obligations.NoRenderingKeepsScroll := by
  unfold Obligations.NoRenderingKeepsScroll
  intro n s hbg hsprites q
  induction n with
  | zero => exact ⟨rfl, rfl, rfl, rfl, rfl, rfl, rfl⟩
  | succ n ih =>
    obtain ⟨hv, ht, hx, hnt, hat, hlo, hhi⟩ := ih
    obtain ⟨hv', hnt', hat', hlo', hhi'⟩ := ppuStep_rendering_off (s := ppuRun n s)
      (by rw [ppuRun_mask, hbg]) (by rw [ppuRun_mask, hsprites])
    have hq : q = (ppuStep (ppuRun n s)).ppu := by rw [← ppuRun_succ]
    rw [hq, ppuStep_t, ppuStep_fineX]
    exact ⟨hv'.trans hv, ht, hx, hnt'.trans hnt, hat'.trans hat, hlo'.trans hlo, hhi'.trans hhi⟩

/-! ### The fetch addresses -/

theorem v16_toNat (p : Ppu) : p.v16.toNat = p.v.toNat := by
  rw [Ppu.v16, BitVec.toNat_setWidth]
  exact Nat.mod_eq_of_lt (p.v.isLt.trans (by decide))

theorem ntAddress_toNat (p : Ppu) : p.ntAddress.toNat = 0x2000 + p.v.toNat % 0x1000 := by
  have hlow : fieldNat p.ntAddress 0 12 = fieldNat p.v16 0 12 := by
    rw [Ppu.ntAddress, fieldNat_or_right rfl, fieldNat_and_ones rfl]
  have hhigh : fieldNat p.ntAddress 12 4 = 2 := by
    rw [Ppu.ntAddress, fieldNat_or_left (fieldNat_and_zero rfl)]
    rfl
  simp only [fieldNat, Nat.reducePow, Nat.div_one, v16_toNat] at hlow hhigh
  omega

/-- The second fetch address: the nametable, and the coarse scroll divided by 4 (R177). -/
theorem atAddress_toNat (p : Ppu) :
    p.atAddress.toNat =
      0x23C0 + 0x400 * (p.v.toNat / 0x400 % 4) + 8 * (p.v.toNat / 0x80 % 8) + p.v.toNat / 4 % 8 := by
  have hshift (n : Nat) : (bitsFrom p.v16 n).toNat = p.v.toNat / 2 ^ n := by
    rw [bitsFrom, BitVec.toNat_ushiftRight, Nat.shiftRight_eq_div_pow, v16_toNat]
  have hx : fieldNat p.atAddress 0 3 = fieldNat (bitsFrom p.v16 2) 0 3 := by
    rw [Ppu.atAddress, fieldNat_or, fieldNat_or_left (fieldNat_and_zero rfl), fieldNat_or_left (fieldNat_and_zero rfl),
      fieldNat_and_ones rfl]
    exact Nat.zero_or _
  have hy : fieldNat p.atAddress 3 3 = fieldNat (bitsFrom p.v16 4) 3 3 := by
    rw [Ppu.atAddress, fieldNat_or_left (fieldNat_and_zero rfl), fieldNat_or, fieldNat_or_left (fieldNat_and_zero rfl),
      fieldNat_and_ones rfl]
    exact Nat.zero_or _
  have hnt : fieldNat p.atAddress 10 2 = fieldNat p.v16 10 2 := by
    rw [Ppu.atAddress, fieldNat_or_left (fieldNat_and_zero rfl), fieldNat_or_left (fieldNat_and_zero rfl),
      fieldNat_or_right rfl, fieldNat_and_ones rfl]
  have hfixed : fieldNat p.atAddress 6 4 = 15 ∧ fieldNat p.atAddress 12 4 = 2 := by
    constructor <;>
    · rw [Ppu.atAddress, fieldNat_or_left (fieldNat_and_zero rfl), fieldNat_or_left (fieldNat_and_zero rfl),
        fieldNat_or_left (fieldNat_and_zero rfl)]
      rfl
  simp only [fieldNat, hshift, v16_toNat, Nat.reducePow, Nat.div_one] at hx hy hnt hfixed
  have hdiv6 := Nat.div_div_eq_div_mul p.atAddress.toNat 8 8
  have hdiv10 := Nat.div_div_eq_div_mul p.atAddress.toNat 64 16
  have hdiv12 := Nat.div_div_eq_div_mul p.atAddress.toNat 1024 4
  have hdiv7 := Nat.div_div_eq_div_mul p.v.toNat 16 8
  omega

theorem patternAddress_toNat (p : Ppu) :
    p.patternAddress.toNat = 0x1000 * flagNat p.ctrl.bgTable + 16 * p.ntLatch.toNat + p.v.toNat / 4096 := by
  have hfine : (bitsFrom p.v16 12).toNat = p.v.toNat / 4096 := by
    rw [bitsFrom, BitVec.toNat_ushiftRight, Nat.shiftRight_eq_div_pow, v16_toNat]
  have htile : (p.ntLatch.setWidth 16).toNat = p.ntLatch.toNat := zext16_toNat p.ntLatch
  have htable : (if p.ctrl.bgTable then 0x1000 else 0 : Word).toNat = 0x1000 * flagNat p.ctrl.bgTable := by
    cases p.ctrl.bgTable <;> rfl
  have hflag : flagNat p.ctrl.bgTable ≤ 1 := by cases p.ctrl.bgTable <;> decide
  rw [Ppu.patternAddress, BitVec.toNat_add, BitVec.toNat_add, BitVec.toNat_mul, htable, htile, hfine]
  simp only [BitVec.ofNat_eq_ofNat, BitVec.toNat_ofNat]
  omega

/-- The bytes that the fetches read, at their addresses as numbers (R177). -/
theorem fetchBytes_eq (s : State) :
    let v := s.ppu.v.toNat
    let pattern := 0x1000 * flagNat s.ppu.ctrl.bgTable + 16 * s.ppu.ntLatch.toNat + v / 4096
    ppuRead s s.ppu.ntAddress = ppuByte s (0x2000 + v % 0x1000) ∧
    ppuRead s s.ppu.atAddress =
      ppuByte s (0x23C0 + 0x400 * (v / 0x400 % 4) + 8 * (v / 0x80 % 8) + v / 4 % 8) ∧
    ppuRead s s.ppu.patternAddress = ppuByte s pattern ∧
    ppuRead s (s.ppu.patternAddress + 8) = ppuByte s (pattern + 8) := by
  intro v pattern
  have hread {a : Word} {n : Nat} (h : a.toNat = n) (hn : n < 0x4000) : ppuRead s a = ppuByte s n := by
    rw [ppuRead_eq, h, Nat.mod_eq_of_lt hn]
  have hpattern : s.ppu.patternAddress.toNat = pattern := patternAddress_toNat s.ppu
  have hlt : pattern + 8 < 0x4000 := by
    have hflag : flagNat s.ppu.ctrl.bgTable ≤ 1 := by cases s.ppu.ctrl.bgTable <;> decide
    omega
  refine ⟨hread (ntAddress_toNat s.ppu) (by omega), hread (atAddress_toNat s.ppu) (by omega),
    hread hpattern (by omega), hread ?_ hlt⟩
  rw [BitVec.toNat_add, hpattern]
  exact Nat.mod_eq_of_lt (hlt.trans (by decide))

/-- Settles O54: which of the events a position has, and the fields that each event gives. -/
theorem scrollPropagation : Obligations.ScrollPropagation := by
  unfold Obligations.ScrollPropagation
  intro s hrender v q xSteps y carry onLine inWindow pattern
  have hfetches (k : Nat) : (afterVblank s).ppu.fetchesAt k = true ↔ onLine ∧ inWindow ∧ q.dot % 8 = k :=
    afterVblank_fetchesAt k hrender
  have hrendering : (afterVblank s).ppu.rendering = true ↔ onLine := by
    rw [afterVblank_rendering, and_iff_right hrender]
  refine ⟨fun hline hmod hwindow hdot => ?store, fun hline hdot => ?incY, fun hline hdot => ?copyX,
    fun hline hlow hhigh => ?copyY, fun hstore hcopyX hcopyY => ?other, ?latches⟩
  case store =>
    have hscroll : q.dot ≠ 256 ∧ q.dot ≠ 257 ∧ ¬ (q.scanline = 261 ∧ 280 ≤ q.dot ∧ q.dot ≤ 304) :=
      ⟨hdot, by omega, by omega⟩
    have hv : q.v = s.ppu.incX.v := ppuStep_v_incX ((hfetches 0).mpr ⟨hline, hwindow, hmod⟩) hscroll
    obtain ⟨hx, hntX, hy, hhigh⟩ := incX_fields s.ppu
    simp only [xSteps, hv]
    exact ⟨⟨hx, hntX⟩, hy, hhigh⟩
  case incY =>
    have hv : q.v = s.ppu.incX.incY.v := ppuStep_v_incY ((hfetches 0).mpr ⟨hline, by omega, by omega⟩) hdot
    obtain ⟨hx, hntX, hy, hhigh⟩ := incX_fields s.ppu
    have hfineX : s.ppu.incX.v.toNat / 4096 = s.ppu.v.toNat / 4096 := by
      rw [← Nat.div_div_eq_div_mul _ 2048 2, hhigh, Nat.div_div_eq_div_mul]
    obtain ⟨hx', hntX', hfine, hy', hntY⟩ := incY_fields s.ppu.incX
    rw [hfineX] at hfine
    simp only [hfineX, hy, hhigh] at hy' hntY
    simp only [xSteps, hv]
    exact ⟨⟨hx'.trans hx, hntX'.trans hntX⟩, hfine, hy', hntY⟩
  case copyX => exact ppuStep_v_copyX (by rw [hfetches]; omega) (hrendering.mpr hline) hdot
  case copyY => exact ppuStep_v_copyY (by rw [hfetches]; omega) (hrendering.mpr (.inr hline)) ⟨hline, hlow, hhigh⟩
  case other =>
    have hfetch : ¬ (afterVblank s).ppu.fetchesAt 0 = true := by
      rw [hfetches]
      exact fun ⟨hline, hwindow, hmod⟩ => hstore ⟨hline, hmod, hwindow⟩
    have hincY (hline : onLine) : q.dot ≠ 256 := fun hdot => hstore ⟨hline, by omega, .inl ⟨by omega, by omega⟩⟩
    exact ppuStep_v_keeps hfetch fun hrender' =>
      ⟨hincY (hrendering.mp hrender'), fun hdot => hcopyX ⟨hrendering.mp hrender', hdot⟩, hcopyY⟩
  case latches =>
    obtain ⟨hnt, hat, hlo, hhi⟩ := ppuStep_fetches s
    obtain ⟨hnt', hat', hlo', hhi'⟩ := fetchBytes_eq s
    simp only [hfetches, hnt', hat', hlo', hhi'] at hnt hat hlo hhi
    exact ⟨hnt, hat, hlo, hhi⟩

end Sys2Proof.Machine
end

section
/-! The console's reset operation (R193). -/

namespace Sys2Proof.Machine

/-- The reset vector lies in program ROM (R38, R59). -/
theorem vectorAt_reset (s : State) :
    vectorAt 0xFFFC 0xFFFD s = wordOf (mapperRead s.cart 0xFFFD) (mapperRead s.cart 0xFFFC) := by
  rw [vectorAt, memRead_mapper (by decide), memRead_mapper (by decide)]
  rfl

/-- Settles O59: the reset by its bus reads, whose two bytes are the vector's; the PPU's reset values are 0, field by field. -/
theorem consoleResetEffects : Obligations.ConsoleResetEffects := by
  unfold Obligations.ConsoleResetEffects
  intro s
  rw [consoleReset_eq, vectorAt_reset]
  rfl

end Sys2Proof.Machine
end
